-- ==== Sys2Proof/Word.lean ====
section
/-! DEFINITION. The byte and the index ranges of Table 0-3: slots, colour lines, engine channels, Engine Links,
profiles, key slots and temperature bands. -/

namespace Sys2Proof

/-- One byte of a frame on any of the part's interfaces. -/
abbrev Byte := BitVec 8

/-- A socket, 0-15 (Table 0-3). -/
abbrev SlotId := Fin 16
/-- A colour line, 0-11. -/
abbrev LineId := Fin 12
/-- An engine channel of one link, 0-11. -/
abbrev ChannelId := Fin 12
/-- An Engine Link: 0 is EL0, 1 is EL1. -/
abbrev LinkId := Fin 2
/-- A profile, 0-15. -/
abbrev ProfileId := Fin 16
/-- A key slot of the key store, 0-3. -/
abbrev KeySlotId := Fin 4
/-- A temperature band, 0-7. -/
abbrev Band := Fin 8

/-- Every slot, in ascending number. -/
def allSlots : List SlotId := [0, 1, 2, 3, 4, 5, 6, 7, 8, 9, 10, 11, 12, 13, 14, 15]
/-- Every colour line, in ascending number. -/
def allLines : List LineId := [0, 1, 2, 3, 4, 5, 6, 7, 8, 9, 10, 11]
/-- Every channel of a link, in ascending number. -/
def allChannels : List ChannelId := [0, 1, 2, 3, 4, 5, 6, 7, 8, 9, 10, 11]
/-- Both Engine Links. -/
def allLinks : List LinkId := [0, 1]
/-- Every key slot. -/
def allKeySlots : List KeySlotId := [0, 1, 2, 3]

end Sys2Proof
end

