-- ==== Sys2Proof/Syntax.lean ====
section
/-! DEFINITION. The commands of the block: one constructor of `Instr` for every row of spec/opcode_table.json, in
the table's order, with the operands the row's rule gives it. Request arguments are carried as the bytes and words
of Table 10-4, so that a value outside its range reaches the check that refuses or clamps it. -/

namespace Sys2Proof

/-- The payload of a READ RECORD response (Table 2-3), field by field, each at the width it has on the bus. -/
structure RecordPayload where
  serial   : BitVec 64
  colour   : BitVec 4
  profile  : BitVec 4
  fill     : BitVec 24
  keyIndex : BitVec 8
  marks    : BitVec 16
  depleted : BitVec 8
  deriving DecidableEq, Repr

/-- The commands: one per row of the opcode table. -/
inductive Instr where
  /-- POWER_ON (R4). -/
  | powerOn
  /-- RESET_N (R4): assertion of the reset input. -/
  | resetN
  /-- READ_PART_IDENTITY, request 0x01 (R176). -/
  | readPartIdentity
  /-- READ_SLOT, request 0x02 (R177). -/
  | readSlot (slot : Byte)
  /-- READ_LINE, request 0x03 (R178). -/
  | readLine (line : Byte)
  /-- READ_LINK, request 0x04 (R178). -/
  | readLink (link : Byte)
  /-- READ_HISTORY, request 0x05 (R179). -/
  | readHistory
  /-- READ_EVENTS, request 0x08 (R184). -/
  | readEvents
  /-- CLEAR_EVENTS, request 0x09 (R185): kind code c stands at bit c - 1. -/
  | clearEvents (kinds : BitVec 24)
  /-- SET_EVENT_MASK, request 0x0A (R186): the kinds to be enabled, kind code c at bit c - 1. -/
  | setEventMask (kinds : BitVec 24)
  /-- CONFIGURE_LINE, request 0x10 with nine bytes (R10 to R12); slot B of none is 0xFF. -/
  | configureLine (line colour slotA slotB profile : Byte) (reserve : BitVec 32)
  /-- UNCONFIGURE_LINE, request 0x10 with one byte (R10, R13). -/
  | unconfigureLine (line : Byte)
  /-- MAP_CHANNELS, request 0x11 (R15): channel and target for each entry, a target of none being 0xFF. -/
  | mapChannels (link : Byte) (entries : List (Byte × Byte))
  /-- LOAD_PROFILE, request 0x18 (R119). -/
  | loadProfile (profile : Byte) (vs vm vl : BitVec 16) (floor prime : BitVec 32) (sense : Byte) (threshold : BitVec 16)
  /-- SET_TEMPERATURE_FACTORS, request 0x19 (R121): K0 to K7. -/
  | setTemperatureFactors (k : Vector (BitVec 16) 8)
  /-- SET_POLICY, request 0x1A (R19, R62). -/
  | setPolicy (acceptRefilled acceptForeign probeTrust : Byte) (reauthPeriod : BitVec 32) (quantum : Byte)
      (commitPeriod : BitVec 16)
  /-- SET_THRESHOLDS, request 0x1B (R137). -/
  | setThresholds (low critical probePeriod : BitVec 16)
  /-- ENTER_SUPPLY_HOLD, request 0x20 (R16). -/
  | enterSupplyHold
  /-- LEAVE_SUPPLY_HOLD, request 0x21 (R17). -/
  | leaveSupplyHold
  /-- FREEZE_REPORT, request 0x28 (R180). -/
  | freezeReport
  /-- RELEASE_REPORT, request 0x29 (R181). -/
  | releaseReport
  /-- COMMIT_NOW, request 0x30 (R160): slot k stands at bit k. -/
  | commitNow (slots : BitVec 16)
  /-- RETRY_SLOT, request 0x31 (R63). -/
  | retrySlot (slot : Byte)
  /-- LOAD_KEY, request 0x38 (R59). -/
  | loadKey (keySlot : Byte) (key : BitVec 128)
  /-- KEY_PROGRAMMING_DONE (R59): the 20 ms of programming end. -/
  | keyProgrammingDone
  /-- REVOKE_KEY, request 0x39 (R60). -/
  | revokeKey (keySlot : Byte)
  /-- UNKNOWN_REQUEST (R173): a taken frame, by its request code and payload. -/
  | unknownRequest (code : Byte) (payload : List Byte)
  /-- FRAME_ERROR (R172): the MOSI bytes of a request transfer whose frame is in error. -/
  | frameError (mosi : List Byte)
  /-- READ_TRANSFER (R171): the number of bytes the formatter clocks out. -/
  | readTransfer (count : Nat)
  /-- PRESENCE_CHANGE (R41): the level the presence line takes. -/
  | presenceChange (slot : SlotId) (asserted : Bool)
  /-- INSERTION (R42): the qualification timer expires toward PRESENT. -/
  | insertion (slot : SlotId)
  /-- REMOVAL (R43): the qualification timer expires toward ABSENT. -/
  | removal (slot : SlotId)
  /-- SELECTION (R31). -/
  | selection
  /-- RETRY (R34). -/
  | retry
  /-- READ_RECORD_COMPLETION (R45): the payload of the complete response. -/
  | readRecordCompletion (payload : RecordPayload)
  /-- CHALLENGE_COMPLETION (R48): marks, depleted mark and tag of the complete response. -/
  | challengeCompletion (marks : BitVec 16) (depleted : Byte) (tag : BitVec 64)
  /-- ADVANCE_MARKS_COMPLETION (R165): the value returned. -/
  | advanceMarksCompletion (value : BitVec 16)
  /-- MARK_DEPLETED_COMPLETION (R167). -/
  | markDepletedCompletion
  /-- TRANSACTION_FAILURE (R34): the bytes received on CBUS, up to the one at which the failure is found. -/
  | transactionFailure (bytes : List Byte)
  /-- TRANSACTION_TIMEOUT (R24). -/
  | transactionTimeout
  /-- VOID_TRANSACTION_END (R37): whether the discarded response was complete. -/
  | voidTransactionEnd (complete : Bool)
  /-- REAUTHENTICATION_TIMER_EXPIRY (R55). -/
  | reauthenticationTimerExpiry
  /-- COMMIT_TIMER_EXPIRY (R159). -/
  | commitTimerExpiry
  /-- FREEZE_EXPIRY (R181). -/
  | freezeExpiry
  /-- PROBE_TIMER_EXPIRY (R67). -/
  | probeTimerExpiry (slot : SlotId)
  /-- EXCITATION_END (R69): whether the released pin is low as the return window opens. -/
  | excitationEnd (slot : SlotId) (pinLow : Bool)
  /-- PROBE_RETURN_END (R71): the length of the low period in whole microseconds, 0-4,095 (R69). -/
  | probeReturnEnd (slot : SlotId) (width : BitVec 12)
  /-- RETURN_WINDOW_CLOSE (R70). -/
  | returnWindowClose (slot : SlotId)
  /-- LINK_UP (R96): LINK_EN becomes asserted. -/
  | linkUp (link : LinkId)
  /-- LINK_DOWN (R97): LINK_EN becomes deasserted. -/
  | linkDown (link : LinkId)
  /-- COUNT_S (R99): channel field and value of the frame. -/
  | countS (link : LinkId) (channel : BitVec 4) (count : BitVec 16)
  /-- COUNT_M (R99). -/
  | countM (link : LinkId) (channel : BitVec 4) (count : BitVec 16)
  /-- COUNT_L (R99). -/
  | countL (link : LinkId) (channel : BitVec 4) (count : BitVec 16)
  /-- BAND (R98): byte 1 of the frame; its channel field and byte 2 are ignored. -/
  | band (link : LinkId) (value : Byte)
  /-- SYNC (R101). -/
  | sync (link : LinkId)
  /-- QUERY (R115). -/
  | query (link : LinkId)
  /-- BAD_FRAME (R94): the bytes of the frame as the physical layer delimits it. -/
  | badFrame (link : LinkId) (bytes : List Byte)
  /-- GRANT (R112): the link looks at its grant pending set. -/
  | grant (link : LinkId)
  /-- ACCOUNT_REPORT (R122): the Accounting Unit is ready for a report. -/
  | accountReport
  /-- END_OF_RESET (R41): the part begins to operate. -/
  | endOfReset
  /-- COMMAND_FRAME_END (R24). -/
  | commandFrameEnd
  /-- GRANT_FRAME_END (R112). -/
  | grantFrameEnd (link : LinkId)
  /-- LOW_PERIOD_BEGIN (R69). -/
  | lowPeriodBegin (slot : SlotId)
  deriving DecidableEq, Repr

end Sys2Proof
end

