-- ==== Sys2Proof/Decode.lean ====
section
/-! DEFINITION. Reading a command from a word. The opcode table gives no row any bits: the commands of this block
are requests, frames and pin events, whose bytes Machine/Wire.lean and Machine/Requests.lean read. -/

namespace Sys2Proof

/-- The command a word spells by the table's bits: none, since the table gives bits to no row. -/
def decodeTableWord (nbits w : Nat) : Option Instr :=
  match nbits, w with
  | _, _ => none

end Sys2Proof
end

