-- ==== Sys2Proof/Config.lean ====
section
/-! DEFINITION. The free values: what the manual leaves open, as constants with no body. No proof can see
what they are, so a statement that holds of the model holds whatever they are. -/

namespace Sys2Proof.Config

/-- The k-th 32-bit word drawn from the part's entropy source (R46: the challenge counter at power-on; R47: the
lower half of each challenge). DESIGN CHOICE, safe: assumption log entry 1. -/
opaque entropyWord : Nat → BitVec 32

/-- The cartridge tag function of R27: key, the thirteen bytes of an identity record, challenge, marks, and the
depleted value. Deterministic; "Its construction is not given in this manual". DESIGN CHOICE, safe: assumption log
entry 2. -/
opaque tagFunction : BitVec 128 → BitVec 104 → BitVec 64 → BitVec 16 → Bool → BitVec 64

/-- The part revision number, 0-255 (R176); the manual gives no value. DESIGN CHOICE, safe: assumption log
entry 3. -/
opaque partRevision : BitVec 8

/-- What Read Slot reports as uncommitted (R157, R177) while consumed lies below the committed marks' volume, as it
does while the marks are provisional: a function of consumed and committed marks, since the manual gives no value.
DESIGN CHOICE, safe: assumption log entry 4. -/
opaque uncommittedBelowMarks : Nat → Nat → BitVec 32

end Sys2Proof.Config
end

