-- ==== Sys2Proof/Machine/State.lean ====
section
/-! DEFINITION. The state of the Lanmor 3160, block by block (Table 0-1), as plain data; the reasons a step could
stop; and the state after reset. Volumes, counts and times are whole numbers of the manual's units (Table 0-2);
serials, keys, challenges and frame bytes are bit vectors. Running timers hold their time remaining in ms. -/

namespace Sys2Proof.Machine

/-! ## The Slot Table (R1 to R4) -/

/-- State of a slot (Table 1-1), in the manual's order. -/
inductive SlotState where
  | vacant | identifying | verifying | probing | ready | rejected | fault
  deriving DecidableEq, Repr

/-- Reject reason (Table 1-1). -/
inductive RejectReason where
  | badRecord | misplaced | unknownProfile | notAccepted | duplicate
  deriving DecidableEq, Repr

/-- Cause of a FOREIGN provenance (Table 1-1). -/
inductive ForeignCause where
  | tagMismatch | keyUnavailable | duplicate
  deriving DecidableEq, Repr

/-- The part's verdict on a cartridge (Table 1-1). -/
inductive Provenance where
  | genuine | refilled | rewound | foreign (cause : ForeignCause)
  deriving DecidableEq, Repr

/-- Tracking (Table 1-1). -/
inductive Tracking where
  | tracked | untracked
  deriving DecidableEq, Repr

/-- Level phase (Table 1-1, R138). -/
inductive Phase where
  | normal | low | critical | empty | untracked
  deriving DecidableEq, Repr

/-- Settled probe result (Table 1-1). -/
inductive ProbeState where
  | unknown | wet | dry | fault
  deriving DecidableEq, Repr

/-- A slot's part in its line (Table 1-1). -/
inductive Role where
  | active | standby | none
  deriving DecidableEq, Repr

/-- The cartridge's identity record as the slot keeps it (Table 1-1). -/
structure Identity where
  serial   : BitVec 64
  colour   : BitVec 4
  profile  : ProfileId
  /-- Fill in µL. -/
  fill     : Nat
  keyIndex : KeySlotId
  deriving DecidableEq, Repr

/-- A slot record (Table 1-1). -/
structure SlotRecord where
  state          : SlotState
  rejectReason   : Option RejectReason
  provenance     : Option Provenance
  identity       : Option Identity
  committedMarks : Nat
  /-- Volume charged, in nL, saturating at 2^32 - 1. -/
  consumed       : Nat
  depleted       : Bool
  tracking       : Tracking
  phase          : Option Phase
  earlyDry       : Bool
  probeState     : ProbeState
  primed         : Bool
  busFailures    : Nat
  /-- Committed marks are seeded and no longer provisional (R2, R78, R157). -/
  seeded         : Bool
  line           : Option LineId
  role           : Role
  deriving DecidableEq, Repr

/-- A slot record with the initial cartridge fields of R3 and the given placement fields. -/
def SlotRecord.vacantAt (line : Option LineId) (role : Role) : SlotRecord :=
  { state := .vacant, rejectReason := none, provenance := none, identity := none, committedMarks := 0,
    consumed := 0, depleted := false, tracking := .untracked, phase := none, earlyDry := false,
    probeState := .unknown, primed := false, busFailures := 0, seeded := false, line := line, role := role }

/-- The debounce's settled presence (R41). -/
inductive SettledPresence where
  | absent | present
  deriving DecidableEq, Repr

/-- A presence line and its debounce (R41). -/
structure Socket where
  /-- The level of the PRES input: asserted or not. -/
  asserted : Bool
  settled  : SettledPresence
  /-- The qualification timer: time remaining, or stopped. -/
  timer    : Option Nat
  deriving DecidableEq, Repr

/-! ## The Probe Unit (R65) -/

/-- The measurement under way on a probe pin (R69): the excitation, the return window before a low period has
begun, or the low period. -/
inductive Measurement where
  | excitation | window | lowPeriod
  deriving DecidableEq, Repr

/-- The kind of a judged result (R71), which is also a run kind (R72). -/
inductive ResultKind where
  | wet | dry | noReturn
  deriving DecidableEq, Repr

/-- The outcome of the most recent measurement (Table 4-1), with the width in µs when one was measured. -/
inductive LastResult where
  | unjudged (width : Option Nat)
  | judged (kind : ResultKind) (width : Option Nat)
  deriving DecidableEq, Repr

/-- Per-slot measurement state (Table 4-1). -/
structure ProbeUnit where
  measuring  : Bool
  timer      : Option Nat
  inFlight   : Option Measurement
  lastResult : Option LastResult
  runKind    : Option ResultKind
  runCount   : Nat
  deriving DecidableEq, Repr

/-! ## The Cartridge Bus Controller (R29 to R40) -/

/-- A need (R29). -/
inductive Need where
  | identify | challenge | commit | markDepleted
  deriving DecidableEq, Repr

/-- A need set (R29): which of the four needs it holds. -/
structure NeedSet where
  identify     : Bool
  challenge    : Bool
  commit       : Bool
  markDepleted : Bool
  deriving DecidableEq, Repr

/-- The payload sent by a transaction (R32). -/
inductive Payload where
  | empty
  | challenge (value : BitVec 64)
  | count (n : Nat)
  deriving DecidableEq, Repr

/-- The in-flight record (R32). -/
structure Transaction where
  slot    : SlotId
  need    : Need
  payload : Payload
  renewed : Bool
  void    : Bool
  deriving DecidableEq, Repr

/-- A timer that runs and that a request may start again while it runs. -/
structure RunningTimer where
  /-- Time remaining, in ms. -/
  left      : Nat
  /-- The model's own mark: a request has started the timer again while it ran, and the expiry that request overtook
  does not happen (assumption log entry 8). -/
  restarted : Bool
  deriving DecidableEq, Repr

/-- The bus controller but for the needs table. -/
structure BusController where
  lastServed   : SlotId
  inFlight     : Option Transaction
  /-- The command frame the part is driving on CBUS; none while the wire is released (R20). -/
  driving      : Option (List Byte)
  /-- The transaction timeout, running from the end of the command frame (R24). -/
  timeout      : Option Nat
  /-- The failure of the transaction in flight has been taken at a wrong address echo, and the bytes that follow are
  ignored until its timeout ends (R20). -/
  ignoring     : Bool
  /-- The quiet interval after a transaction (R20). -/
  quiet        : Option Nat
  /-- The slot and need of a retry that a counted failure calls for (R34). -/
  retryFor     : Option (SlotId × Need)
  /-- The commit timer (R159). -/
  commitTimer  : Option RunningTimer
  deriving DecidableEq, Repr

/-! ## The Authentication Unit (R46, R55, R58) -/

/-- A key slot (R58): only a LOADED one holds a key. -/
inductive KeyState where
  | blank | loaded (key : BitVec 128) | revoked
  deriving DecidableEq, Repr

/-- A key slot with its interruption mark (R59). -/
structure KeySlot where
  state       : KeyState
  interrupted : Bool
  deriving DecidableEq, Repr

/-- A Load Key being programmed (R59). -/
structure Programming where
  keySlot : KeySlotId
  key     : BitVec 128
  /-- Time remaining of the 20 ms. -/
  timer   : Nat
  deriving DecidableEq, Repr

/-- The Authentication Unit. -/
structure AuthUnit where
  challengeCounter : BitVec 32
  keys             : Vector KeySlot 4
  programming      : Option Programming
  /-- The re-authentication timer (R55). -/
  reauthTimer      : Option RunningTimer
  /-- The model's own count of words drawn from the entropy source (assumption log entry 1). -/
  entropyDrawn     : Nat
  deriving DecidableEq, Repr

/-! ## The History Table (R77) -/

/-- A history entry (Table 5-1). -/
structure HistoryEntry where
  serial         : BitVec 64
  committedMarks : Nat
  consumed       : Nat
  depleted       : Bool
  lastSlot       : SlotId
  lastVerdict    : Option Provenance
  deriving DecidableEq, Repr

/-! ## The Line Table (R5, R8, R19) -/

/-- Which of a line's slots feeds it (Table 1-3). -/
inductive ActiveSide where
  | a | b
  deriving DecidableEq, Repr

/-- A line's permission to fire (Table 1-3). -/
inductive Grant where
  | opened | reserve | closed
  deriving DecidableEq, Repr

/-- A colour line record (Table 1-3). -/
structure LineRecord where
  configured       : Bool
  colour           : BitVec 4
  slotA            : SlotId
  slotB            : Option SlotId
  active           : ActiveSide
  defaultProfile   : ProfileId
  reserve          : Nat
  reserveRemaining : Nat
  residue          : Nat
  grant            : Grant
  dropsS           : Nat
  dropsM           : Nat
  dropsL           : Nat
  debited          : Nat
  orphan           : Nat
  closedFire       : Nat
  deriving DecidableEq, Repr

/-- A line record at power-on and RESET_N (R9). -/
def LineRecord.initial : LineRecord :=
  { configured := false, colour := 0, slotA := 0, slotB := none, active := .a, defaultProfile := 0, reserve := 0,
    reserveRemaining := 0, residue := 0, grant := .closed, dropsS := 0, dropsM := 0, dropsL := 0, debited := 0,
    orphan := 0, closedFire := 0 }

/-- The policy record (Table 1-4); periods in seconds. -/
structure Policy where
  acceptRefilled : Bool
  acceptForeign  : Bool
  probeTrust     : Bool
  reauthPeriod   : Nat
  commitQuantum  : Nat
  commitPeriod   : Nat
  deriving DecidableEq, Repr

/-- The defaults of Table 1-4. -/
def Policy.default : Policy :=
  { acceptRefilled := true, acceptForeign := false, probeTrust := true, reauthPeriod := 600, commitQuantum := 5,
    commitPeriod := 60 }

/-- The level thresholds in per-mille (R136). -/
structure Thresholds where
  low      : Nat
  critical : Nat
  deriving DecidableEq, Repr

/-! ## The Accounting Unit (R118, R121) -/

/-- Which way a long probe return reads (Table 7-1). -/
inductive ProbeSense where
  | longIsWet | longIsDry
  deriving DecidableEq, Repr

/-- A present profile entry (Table 7-1). -/
structure Profile where
  vs             : Nat
  vm             : Nat
  vl             : Nat
  emptyFloor     : Nat
  prime          : Nat
  probeSense     : ProbeSense
  probeThreshold : Nat
  deriving DecidableEq, Repr

/-! ## The Engine Links (R95) -/

/-- The three drop sizes, in the order an engine reports them (R99). -/
inductive DropSize where
  | s | m | l
  deriving DecidableEq, Repr

/-- An open assembly (Table 6-3). It holds no L count: an L count completes it (R99). -/
structure Assembly where
  channel     : ChannelId
  sCount      : Option Nat
  mCount      : Option Nat
  bandOpening : Band
  deriving DecidableEq, Repr

/-- A report (R102). -/
structure Report where
  channel   : ChannelId
  ns        : Nat
  nm        : Nat
  nl        : Nat
  band      : Band
  isPartial : Bool
  deriving DecidableEq, Repr

/-- An overflow accumulator (R104). -/
structure Accumulator where
  sSum : Nat
  mSum : Nat
  lSum : Nat
  band : Band
  deriving DecidableEq, Repr

/-- Three totals, one per drop size (Table 6-3). -/
structure DropTotals where
  s : Nat
  m : Nat
  l : Nat
  deriving DecidableEq, Repr

/-- A GRANT frame in transmission (R112): its channel and its four bytes on EDO. -/
structure GrantFrame where
  channel : ChannelId
  bytes   : List Byte
  deriving DecidableEq, Repr

/-- An Engine Link (Table 6-3) with its LINK_EN input. -/
structure EngineLink where
  /-- The level of LINK_EN: asserted or not. -/
  linkEn       : Bool
  /-- Link state: UP or DOWN. -/
  up           : Bool
  band         : Band
  assembly     : Option Assembly
  /-- The intake FIFO, oldest first. -/
  fifo         : List Report
  /-- HOLD: asserted or released. -/
  hold         : Bool
  accumulators : Vector Accumulator 12
  /-- The grant pending set, by channel. -/
  grantPending : Vector Bool 12
  grantFrame   : Option GrantFrame
  accepted     : DropTotals
  unmapped     : DropTotals
  lost         : DropTotals
  errorCount   : Nat
  deriving DecidableEq, Repr

/-- An Engine Link at power-on and RESET_N (Table 6-3), its LINK_EN input at the given level. -/
def EngineLink.initial (linkEn : Bool) : EngineLink :=
  { linkEn := linkEn, up := false, band := 4, assembly := none, fifo := [], hold := false,
    accumulators := Vector.replicate 12 { sSum := 0, mSum := 0, lSum := 0, band := 4 },
    grantPending := Vector.replicate 12 false, grantFrame := none,
    accepted := { s := 0, m := 0, l := 0 }, unmapped := { s := 0, m := 0, l := 0 },
    lost := { s := 0, m := 0, l := 0 }, errorCount := 0 }

/-! ## The Event Unit (R182) -/

/-- The event kinds whose subject is a slot (Table 10-5). -/
inductive SlotEvent where
  | inserted | removed | accepted | rejected | refillWarning | rewindWarning | foreignWarning
  | levelLow | levelCritical | levelEmpty | probeFault | probeDisagree | busFault
  deriving DecidableEq, Repr

/-- The event kinds whose subject is a line (Table 10-5). -/
inductive LineEvent where
  | switchover | lineReserve | lineClosed | fireClosed | orphanInk
  deriving DecidableEq, Repr

/-- The event kinds whose subject is a link (Table 10-5). -/
inductive LinkEvent where
  | linkError | linkOrder | intakeOverflow | unmappedFire | linkDown
  deriving DecidableEq, Repr

/-- A (kind, subject) pair (R182); FREEZE_EXPIRED has no subject. -/
inductive Event where
  | slot (kind : SlotEvent) (subject : SlotId)
  | line (kind : LineEvent) (subject : LineId)
  | link (kind : LinkEvent) (subject : LinkId)
  | freezeExpired
  deriving DecidableEq, Repr

/-- The Event Unit (R182) with its output ATTN (R186). The sets are lists in ascending kind code and, within a
kind, ascending subject, with no repeats: the order of R184. -/
structure EventUnit where
  pending  : List Event
  reported : List Event
  /-- Kind code c is enabled when bit c - 1 is set. -/
  mask     : BitVec 24
  /-- ATTN: asserted or released. -/
  attn     : Bool
  deriving DecidableEq, Repr

/-! ## The Formatter Port (R171, R180) -/

/-- The port state (R171). -/
inductive PortState where
  | idle | receiving | working | responding
  deriving DecidableEq, Repr

/-- The Formatter Port but for the report freeze. -/
structure FormatterPort where
  state        : PortState
  /-- The bytes of the request being received. -/
  receiving    : List Byte
  /-- The response frame once built. -/
  response     : List Byte
  readPosition : Nat
  /-- The bytes MISO carried in the most recent transfer: the model's own record of the output (assumption log
  entry 10). -/
  miso         : List Byte
  deriving DecidableEq, Repr

/-- The report snapshot (R180): what the four snapshot reads answer from. -/
structure Snapshot where
  slots       : Vector SlotRecord 16
  sockets     : Vector Socket 16
  probes      : Vector ProbeUnit 16
  probePeriod : Nat
  needs       : Vector NeedSet 16
  inFlight    : Option Transaction
  lines       : Vector LineRecord 12
  maps        : Vector (Vector (Option LineId) 12) 2
  links       : Vector EngineLink 2
  history     : List HistoryEntry
  deriving DecidableEq, Repr

/-- A report freeze in force (R180): the freeze timer and the snapshot. -/
structure Freeze where
  timer    : RunningTimer
  snapshot : Snapshot
  deriving DecidableEq, Repr

/-! ## The whole part -/

/-- The state of the part, and the queue of commands waiting to be taken, first in, first out. -/
structure State where
  pending        : List Instr
  /-- The part is held in reset: from POWER_ON or RESET_N until END_OF_RESET (DEDUCED: assumption log entry 6). -/
  inReset        : Bool
  slots          : Vector SlotRecord 16
  sockets        : Vector Socket 16
  probes         : Vector ProbeUnit 16
  /-- The probe period in ms (R65). -/
  probePeriod    : Nat
  needs          : Vector NeedSet 16
  bus            : BusController
  auth           : AuthUnit
  /-- The History Table in position order: the head stands at position 1. -/
  history        : List HistoryEntry
  lines          : Vector LineRecord 12
  /-- The two channel maps (R8). -/
  maps           : Vector (Vector (Option LineId) 12) 2
  supplyHold     : Bool
  policy         : Policy
  thresholds     : Thresholds
  profiles       : Vector (Option Profile) 16
  factors        : Vector Nat 8
  links          : Vector EngineLink 2
  /-- The Intake Arbiter's last-served link (R107). -/
  lastServedLink : LinkId
  events         : EventUnit
  port           : FormatterPort
  freeze         : Option Freeze
  deriving DecidableEq, Repr

/-- The reasons the block could stop with a fault. There is none: the manual describes no condition that stops the
part, and every command has an effect in every state. -/
inductive Fault where
  deriving DecidableEq, Repr

/-- The reasons a command is refused. -/
inductive Refusal where
  /-- Raised by an arm of exec whose command has no meaning yet. Safe. No arm raises it. -/
  | notModelled (mnemonic : String)
  deriving DecidableEq, Repr

/-- A presence line and its debounce after reset, the input at the given level (R41). -/
def Socket.initial (asserted : Bool) : Socket := { asserted := asserted, settled := .absent, timer := none }

/-- The measurement state of a slot after reset (Table 4-1). -/
def ProbeUnit.initial : ProbeUnit :=
  { measuring := false, timer := none, inFlight := none, lastResult := none, runKind := none, runCount := 0 }

/-- The empty need set. -/
def NeedSet.empty : NeedSet := { identify := false, challenge := false, commit := false, markDepleted := false }

/-- The bus controller after reset (R40, R159). -/
def BusController.initial : BusController :=
  { lastServed := 15, inFlight := none, driving := none, timeout := none, ignoring := false, quiet := none,
    retryFor := none, commitTimer := none }

/-- The Event Unit after reset (R182, R186). -/
def EventUnit.initial : EventUnit := { pending := [], reported := [], mask := 0xFFFFFF, attn := false }

/-- The Formatter Port after reset (R171). -/
def FormatterPort.initial : FormatterPort :=
  { state := .idle, receiving := [], response := [], readPosition := 0, miso := [] }

/-- The machine right after power-on, at the start of the part's operation, every input released: the reset values
of R4, R9, R16, R19, R40, R41, R46, R55, R65, R77, R95, R107, R118, R121, R136, R159, R171, R181 and R182.
DESIGN CHOICE: assumption log entries 1 (the challenge counter), 5 (the key store, unsafe) and 6 (the inputs, and in
operation, unsafe). -/
def State.reset : State :=
  { pending := [], inReset := false,
    slots := Vector.replicate 16 (SlotRecord.vacantAt none .none),
    sockets := Vector.replicate 16 (Socket.initial false),
    probes := Vector.replicate 16 ProbeUnit.initial,
    probePeriod := 1000,
    needs := Vector.replicate 16 NeedSet.empty,
    bus := BusController.initial,
    auth := { challengeCounter := Config.entropyWord 0,
              keys := Vector.replicate 4 { state := .blank, interrupted := false },
              programming := none, reauthTimer := none, entropyDrawn := 1 },
    history := [],
    lines := Vector.replicate 12 LineRecord.initial,
    maps := Vector.replicate 2 (Vector.replicate 12 none),
    supplyHold := true,
    policy := Policy.default,
    thresholds := { low := 150, critical := 50 },
    profiles := Vector.replicate 16 none,
    factors := Vector.replicate 8 1024,
    links := Vector.replicate 2 (EngineLink.initial false),
    lastServedLink := 1,
    events := EventUnit.initial,
    port := FormatterPort.initial,
    freeze := none }

end Sys2Proof.Machine
end

