-- ==== Sys2Proof/Machine/Operands.lean ====
section
/-! DEFINITION. Request arguments: the ranges of Table 0-3, the codes of none and of yes (R174, Table 10-4), the
clamping that the owning rules give (R19, R67, R119, R121, R137), and the fixed numbers of the manual. -/

namespace Sys2Proof.Machine

/-! ## Fixed numbers -/

/-- The volume of one mark, in nL (Table 0-2). -/
def markVolume : Nat := 100000
/-- The largest consumed volume, orphan total, closed-fire total and error count (Table 1-1, Table 1-3, R95). -/
def maxWord32 : Nat := 4294967295
/-- The largest drop total of a line or a link (Table 1-3, Table 6-3). -/
def maxWord48 : Nat := 281474976710655
/-- The largest debited total (Table 1-3). -/
def maxWord64 : Nat := 18446744073709551615
/-- The largest committed marks a slot holds (R52). -/
def maxHeldMarks : Nat := 42949
/-- The largest count of one ADVANCE MARKS (R164). -/
def maxCommitCount : Nat := 255
/-- The presence qualification, in ms (R41). -/
def qualificationTime : Nat := 50
/-- The probe interval in PROBING, in ms (R67). -/
def probingInterval : Nat := 20
/-- The programming of a key slot, in ms (R59). -/
def programmingTime : Nat := 20
/-- The freeze timer, in ms (R180). -/
def freezeTime : Nat := 250
/-- The quiet interval of the Cartridge Bus, in ms (R20). -/
def quietTime : Nat := 1
/-- The most reports an intake FIFO holds (R103). -/
def fifoDepth : Nat := 16
/-- The most entries the History Table holds (R77). -/
def historyDepth : Nat := 32

/-- Saturating addition: a sum that would pass `cap` is `cap`. -/
def satAdd (cap a b : Nat) : Nat := min cap (a + b)

/-- `n` brought into `lo` to `hi`. -/
def clampInto (lo hi n : Nat) : Nat := if n < lo then lo else if hi < n then hi else n

/-! ## Single-byte arguments -/

/-- A slot argument, or none where it lies outside 0-15. -/
def slotArg (b : Byte) : Option SlotId := if h : b.toNat < 16 then some ⟨b.toNat, h⟩ else none
/-- A line argument, or none where it lies outside 0-11. -/
def lineArg (b : Byte) : Option LineId := if h : b.toNat < 12 then some ⟨b.toNat, h⟩ else none
/-- A channel argument, or none where it lies outside 0-11. -/
def channelArg (b : Byte) : Option ChannelId := if h : b.toNat < 12 then some ⟨b.toNat, h⟩ else none
/-- A link argument, or none where it is not 0 or 1. -/
def linkArg (b : Byte) : Option LinkId := if h : b.toNat < 2 then some ⟨b.toNat, h⟩ else none
/-- A profile argument, or none where it lies outside 0-15. -/
def profileArg (b : Byte) : Option ProfileId := if h : b.toNat < 16 then some ⟨b.toNat, h⟩ else none
/-- A key slot argument, or none where it lies outside 0-3. -/
def keySlotArg (b : Byte) : Option KeySlotId := if h : b.toNat < 4 then some ⟨b.toNat, h⟩ else none
/-- A colour code argument, or none where it lies outside 0-15. -/
def colourArg (b : Byte) : Option (BitVec 4) := if b.toNat < 16 then some (b.setWidth 4) else none
/-- A probe sense argument (Table 10-4), or none for any other byte. -/
def senseArg (b : Byte) : Option ProbeSense :=
  if b = 0x00 then some .longIsWet else if b = 0x01 then some .longIsDry else none
/-- A slot B argument: 0xFF is none. The outer none is a value outside the range. -/
def slotBArg (b : Byte) : Option (Option SlotId) := if b = 0xFF then some none else (slotArg b).map some
/-- A map target argument: 0xFF is none. The outer none is a value outside the range. -/
def targetArg (b : Byte) : Option (Option LineId) := if b = 0xFF then some none else (lineArg b).map some
/-- A yes/no argument: any non-zero byte is yes. -/
def yesArg (b : Byte) : Bool := b != 0

/-! ## Clamping -/

/-- The re-authentication period as written: 0 stays 0 (Table 1-4). -/
def clampReauthPeriod (n : Nat) : Nat := if n = 0 then 0 else clampInto 10 86400 n
/-- The commit quantum as written (Table 1-4). -/
def clampQuantum (n : Nat) : Nat := clampInto 1 50 n
/-- The commit period as written (Table 1-4). -/
def clampCommitPeriod (n : Nat) : Nat := clampInto 1 600 n
/-- A temperature factor as written (R121). -/
def clampFactor (n : Nat) : Nat := clampInto 768 1279 n
/-- The probe period as written (R67). -/
def clampProbePeriod (n : Nat) : Nat := clampInto 100 5000 n
/-- The low threshold as written (R137, step 1). -/
def clampLow (n : Nat) : Nat := clampInto 1 500 n
/-- The critical threshold as written, below the low threshold as taken (R137, step 2). -/
def clampCritical (low n : Nat) : Nat := if min n 499 < low then min n 499 else low - 1
/-- The empty floor as written (R119). -/
def clampFloor (n : Nat) : Nat := min n 100000000
/-- The prime as written (R119). -/
def clampPrime (n : Nat) : Nat := min n 10000000
/-- The probe threshold as written (R119). -/
def clampProbeThreshold (n : Nat) : Nat := clampInto 50 4000 n
/-- The reserve as written (R10). -/
def clampReserve (n : Nat) : Nat := min n 20000000


end Sys2Proof.Machine
end

