-- ==== Sys2Proof/Machine/Ops.lean ====
section
/-! DEFINITION. Reads and writes of the state's parts: each table is read and written through the operations below,
and each block's record is replaced whole. -/

namespace Sys2Proof.Machine

namespace State

/-! ## Reads -/

/-- The record of a slot (R1). -/
def slot (s : State) (i : SlotId) : SlotRecord := s.slots[i.val]
/-- The presence line of a slot and its debounce (R41). -/
def socket (s : State) (i : SlotId) : Socket := s.sockets[i.val]
/-- The measurement state of a slot (R65). -/
def probe (s : State) (i : SlotId) : ProbeUnit := s.probes[i.val]
/-- The need set of a slot (R29). -/
def needSet (s : State) (i : SlotId) : NeedSet := s.needs[i.val]
/-- The record of a colour line (R5). -/
def line (s : State) (l : LineId) : LineRecord := s.lines[l.val]
/-- The channel map of a link (R8). -/
def map (s : State) (k : LinkId) : Vector (Option LineId) 12 := s.maps[k.val]
/-- The entry of a link's channel map at a channel (R8). -/
def mapEntry (s : State) (k : LinkId) (c : ChannelId) : Option LineId := (s.map k)[c.val]
/-- The record of an Engine Link (R95). -/
def link (s : State) (k : LinkId) : EngineLink := s.links[k.val]
/-- A profile table entry: none is absent (R118). -/
def profile (s : State) (p : ProfileId) : Option Profile := s.profiles[p.val]
/-- The temperature factor of a band (R121). -/
def factor (s : State) (b : Band) : Nat := s.factors[b.val]
/-- A key slot (R58). -/
def keySlot (s : State) (k : KeySlotId) : KeySlot := s.auth.keys[k.val]

/-! ## Writes -/

def setInReset (s : State) (b : Bool) : State := { s with inReset := b }
def setSlot (s : State) (i : SlotId) (r : SlotRecord) : State := { s with slots := s.slots.set i.val r }
def setSocket (s : State) (i : SlotId) (r : Socket) : State := { s with sockets := s.sockets.set i.val r }
def setProbe (s : State) (i : SlotId) (r : ProbeUnit) : State := { s with probes := s.probes.set i.val r }
def setProbePeriod (s : State) (n : Nat) : State := { s with probePeriod := n }
def setNeedSet (s : State) (i : SlotId) (n : NeedSet) : State := { s with needs := s.needs.set i.val n }
def setBus (s : State) (b : BusController) : State := { s with bus := b }
def setAuth (s : State) (a : AuthUnit) : State := { s with auth := a }
def setHistory (s : State) (h : List HistoryEntry) : State := { s with history := h }
def setLine (s : State) (l : LineId) (r : LineRecord) : State := { s with lines := s.lines.set l.val r }
def setMap (s : State) (k : LinkId) (m : Vector (Option LineId) 12) : State := { s with maps := s.maps.set k.val m }
def setSupplyHold (s : State) (b : Bool) : State := { s with supplyHold := b }
def setPolicy (s : State) (p : Policy) : State := { s with policy := p }
def setThresholds (s : State) (t : Thresholds) : State := { s with thresholds := t }
def setProfile (s : State) (p : ProfileId) (r : Option Profile) : State :=
  { s with profiles := s.profiles.set p.val r }
def setFactors (s : State) (f : Vector Nat 8) : State := { s with factors := f }
def setLink (s : State) (k : LinkId) (r : EngineLink) : State := { s with links := s.links.set k.val r }
def setLastServedLink (s : State) (k : LinkId) : State := { s with lastServedLink := k }
def setEvents (s : State) (e : EventUnit) : State := { s with events := e }
def setPort (s : State) (p : FormatterPort) : State := { s with port := p }
def setFreeze (s : State) (f : Option Freeze) : State := { s with freeze := f }
def setPending (s : State) (q : List Instr) : State := { s with pending := q }

/-- Replace a key slot of the key store. -/
def setKeySlot (s : State) (k : KeySlotId) (r : KeySlot) : State :=
  s.setAuth { s.auth with keys := s.auth.keys.set k.val r }

end State

/-- What the part does of its own accord or at an event on a pin, a bus or a link: nothing while it is held in
reset (DEDUCED: assumption log entry 6). -/
def operating (f : State → State) (s : State) : State := if s.inReset then s else f s

/-- Do one thing for each element of a list in turn, each acting on the state the ones before have left. -/
def inTurn {α : Type} (f : α → State → State) : List α → State → State
  | [], s => s
  | x :: xs, s => inTurn f xs (f x s)

/-! ## Timers that a request may start again (R55, R159, R180) -/

/-- A timer as it starts from `ms`. -/
def RunningTimer.start (ms : Nat) : RunningTimer := { left := ms, restarted := false }

/-- A timer that a request starts from `ms`, whether or not it already runs: the expiry of one that runs is
overtaken. -/
def restartTimer (old : Option RunningTimer) (ms : Nat) : RunningTimer := { left := ms, restarted := old.isSome }

/-- Whether an expiry of the timer happens: not of a stopped one, and not the one that a restart has overtaken, which
would come before the time is up (R159, R181; DESIGN CHOICE: assumption log entry 8). -/
def timerExpires : Option RunningTimer → Bool
  | some t => !t.restarted || t.left == 0
  | none => false

/-! ## Derived quantities of a slot record (R2, R157) -/

/-- Fill in nL. -/
def Identity.fillVolume (id : Identity) : Nat := id.fill * 1000

/-- Remaining volume (R2), for a slot whose identity is present. -/
def remaining (id : Identity) (r : SlotRecord) : Nat := id.fillVolume - r.consumed

/-- Overdraw (R2), for a slot whose identity is present. -/
def overdraw (id : Identity) (r : SlotRecord) : Nat := r.consumed - id.fillVolume

/-- Uncommitted volume of a seeded slot (R157). -/
def uncommitted (r : SlotRecord) : Nat := r.consumed - r.committedMarks * markVolume

/-- Claimed volume (R157): that of the ADVANCE MARKS in flight for the slot and not void. -/
def claimed (s : State) (i : SlotId) : Nat :=
  match s.bus.inFlight with
  | some t =>
    if t.slot = i ∧ t.void = false then
      match t.payload with
      | .count n => n * markVolume
      | _ => 0
    else 0
  | none => 0

/-- Unclaimed volume (R157). -/
def unclaimed (s : State) (i : SlotId) : Nat := uncommitted (s.slot i) - claimed s i

/-- READY with provenance GENUINE: the slots whose usage is committed (R163). -/
def SlotRecord.readyGenuine (r : SlotRecord) : Bool := r.state == .ready && r.provenance == some .genuine

/-- Usable (R146). -/
def SlotRecord.usable (r : SlotRecord) : Bool := r.state == .ready && r.phase != some .empty

/-- The serial of the slot's identity is this one. -/
def SlotRecord.holdsSerial (r : SlotRecord) (serial : BitVec 64) : Bool :=
  match r.identity with
  | some id => id.serial == serial
  | none => false

/-! ## The needs table (R29, R30) -/

/-- Whether a need set holds a need. -/
def NeedSet.has (n : NeedSet) : Need → Bool
  | .identify => n.identify
  | .challenge => n.challenge
  | .commit => n.commit
  | .markDepleted => n.markDepleted

/-- A need set with one need put in or taken out. -/
def NeedSet.put (n : NeedSet) (x : Need) (held : Bool) : NeedSet :=
  match x with
  | .identify => { n with identify := held }
  | .challenge => { n with challenge := held }
  | .commit => { n with commit := held }
  | .markDepleted => { n with markDepleted := held }

/-- The next need: the first the set holds (R30). -/
def NeedSet.next (n : NeedSet) : Option Need :=
  if n.identify then some .identify
  else if n.challenge then some .challenge
  else if n.commit then some .commit
  else if n.markDepleted then some .markDepleted
  else none

/-- Mark the transaction in flight renewed if it serves this need of this slot (R29). -/
def renewInFlight (i : SlotId) (x : Need) (s : State) : State :=
  match s.bus.inFlight with
  | some t =>
    if t.slot = i ∧ t.need = x then s.setBus { s.bus with inFlight := some { t with renewed := true } } else s
  | none => s

/-- Add a need to a slot's set (R29). -/
def addNeed (i : SlotId) (x : Need) (s : State) : State :=
  if (s.needSet i).has x then renewInFlight i x s else s.setNeedSet i ((s.needSet i).put x true)

/-- Take a need out of a slot's set. -/
def removeNeed (i : SlotId) (x : Need) (s : State) : State := s.setNeedSet i ((s.needSet i).put x false)

/-- Mark the transaction in flight to the slot void (R37). -/
def voidTransaction (i : SlotId) (s : State) : State :=
  match s.bus.inFlight with
  | some t => if t.slot = i then s.setBus { s.bus with inFlight := some { t with void := true } } else s
  | none => s

/-- Mark an ADVANCE MARKS or MARK DEPLETED in flight to the slot void (R37, the loss of GENUINE). -/
def voidUsageWrite (i : SlotId) (s : State) : State :=
  match s.bus.inFlight with
  | some t =>
    if t.slot = i ∧ (t.need = .commit ∨ t.need = .markDepleted) then
      s.setBus { s.bus with inFlight := some { t with void := true } }
    else s
  | none => s

/-- Empty the slot's need set and void its transaction (R37, R38). -/
def dropBusWork (i : SlotId) (s : State) : State := voidTransaction i (s.setNeedSet i NeedSet.empty)

/-! ## The History Table (R77 to R83) -/

/-- The entry for a serial (R81). -/
def historyFind (serial : BitVec 64) (h : List HistoryEntry) : Option HistoryEntry :=
  h.find? (fun e => e.serial == serial)

/-- The entry a write starts from when the table holds none for the serial (R78). -/
def HistoryEntry.blank (serial : BitVec 64) (i : SlotId) : HistoryEntry :=
  { serial := serial, committedMarks := 0, consumed := 0, depleted := false, lastSlot := i, lastVerdict := none }

/-- Whether the counters a write carries for this record are trusted (R78). -/
def SlotRecord.trusted (r : SlotRecord) : Bool :=
  r.seeded &&
    (match r.provenance with
     | some .genuine => true
     | some .refilled => true
     | some .rewound => true
     | _ => false)

/-- The entry as a write by slot `i` with record `r` refreshes it (R78). -/
def HistoryEntry.refresh (e : HistoryEntry) (i : SlotId) (r : SlotRecord) : HistoryEntry :=
  { serial := e.serial,
    committedMarks := if r.trusted then max e.committedMarks r.committedMarks else e.committedMarks,
    consumed := if r.trusted then max e.consumed r.consumed else e.consumed,
    depleted := if r.trusted then e.depleted || r.depleted else e.depleted,
    lastSlot := i,
    lastVerdict := if r.provenance.isSome then r.provenance else e.lastVerdict }

/-- Whether the identity of a slot that is not VACANT holds the serial (R79). -/
def serialHeld (s : State) (serial : BitVec 64) : Bool :=
  allSlots.any (fun j => (s.slot j).state != .vacant && (s.slot j).holdsSerial serial)

/-- Remove the last entry whose serial is not held; none where every serial is held. -/
def evictLast (held : BitVec 64 → Bool) : List HistoryEntry → Option (List HistoryEntry)
  | [] => none
  | e :: es =>
    match evictLast held es with
    | some rest => some (e :: rest)
    | none => if held e.serial then none else some es

/-- Make room for an insertion (R79): evict only from a full table. The table always holds an entry that can be
evicted; the last entry goes where, in a state no run reaches, it does not. -/
def makeRoom (s : State) (h : List HistoryEntry) : List HistoryEntry :=
  if h.length < historyDepth then h
  else ((evictLast (serialHeld s) h).getD h).take (historyDepth - 1)

/-- A history write for a slot (R78, R80): nothing for a slot with no identity. -/
def historyWrite (i : SlotId) (s : State) : State :=
  match (s.slot i).identity with
  | none => s
  | some id =>
    match historyFind id.serial s.history with
    | some e =>
      s.setHistory (e.refresh i (s.slot i) :: s.history.filter (fun x => x.serial != id.serial))
    | none =>
      s.setHistory ((HistoryEntry.blank id.serial i).refresh i (s.slot i) :: makeRoom s s.history)

/-- The consumed volume of the entry for a serial, 0 where there is none (R54, R81). -/
def historyConsumed (s : State) (serial : BitVec 64) : Nat :=
  match historyFind serial s.history with
  | some e => e.consumed
  | none => 0

/-! ## The Probe Unit's measuring (R66, R68) -/

/-- The interval of a slot that is being measured (R67, R76). -/
def probeInterval (period : Nat) (state : SlotState) : Nat :=
  if state = .probing then probingInterval else period

/-- Begin measuring a slot that enters IDENTIFYING: a measurement starts at once (R66). -/
def startMeasuring (i : SlotId) (s : State) : State :=
  s.setProbe i
    { measuring := true, timer := some s.probePeriod, inFlight := some .excitation, lastResult := none,
      runKind := none, runCount := 0 }

/-- Stop measuring a slot that enters REJECTED or FAULT (R66, R74). -/
def stopMeasuring (i : SlotId) (s : State) : State :=
  s.setProbe i { s.probe i with measuring := false, timer := none, inFlight := none }

/-- Stop measuring a slot that is removed (R66, R74). -/
def clearMeasuring (i : SlotId) (s : State) : State := s.setProbe i ProbeUnit.initial

/-- Move a slot to the PROBING measurement rate (R68). -/
def enterProbingRate (i : SlotId) (s : State) : State :=
  s.setProbe i { s.probe i with timer := some probingInterval, runKind := none, runCount := 0 }

/-- The probe timer of a slot entering READY (R66, R68): from PROBING it restarts from the probe period; from
REJECTED measuring resumes and the timer starts from the probe period; from VERIFYING it goes on as it stands. -/
def readyMeasuring (i : SlotId) (before : SlotState) (s : State) : State :=
  match before with
  | .probing => s.setProbe i { s.probe i with timer := some s.probePeriod }
  | .rejected => s.setProbe i { s.probe i with measuring := true, timer := some s.probePeriod }
  | _ => s

end Sys2Proof.Machine
end

