-- ==== Sys2Proof/Machine/Clock.lean ====
section
/-! DEFINITION. One millisecond of the part's time: every running timer counts down by one and waits at 0 for the
command that says it has expired (DESIGN CHOICE, unsafe: assumption log entry 7). -/

namespace Sys2Proof.Machine

/-- A timer one millisecond on: a stopped one stays stopped. -/
def tickTimer (t : Option Nat) : Option Nat := t.map (fun n => n - 1)

def Socket.tick (k : Socket) : Socket := { k with timer := tickTimer k.timer }
def ProbeUnit.tick (u : ProbeUnit) : ProbeUnit := { u with timer := tickTimer u.timer }
def Programming.tick (p : Programming) : Programming := { p with timer := p.timer - 1 }
def RunningTimer.tick (t : RunningTimer) : RunningTimer := { t with left := t.left - 1 }
def Freeze.tick (f : Freeze) : Freeze := { f with timer := f.timer.tick }

/-- The bus controller's timers: the transaction timeout (R24), the quiet interval (R20), the commit timer (R159). -/
def BusController.tick (b : BusController) : BusController :=
  { b with
    timeout := tickTimer b.timeout, quiet := tickTimer b.quiet, commitTimer := b.commitTimer.map RunningTimer.tick }

/-- The Authentication Unit's timers: the programming (R59) and the re-authentication timer (R55). -/
def AuthUnit.tick (a : AuthUnit) : AuthUnit :=
  { a with programming := a.programming.map Programming.tick, reauthTimer := a.reauthTimer.map RunningTimer.tick }

/-- One millisecond passes. -/
def tick (s : State) : State :=
  { s with
    sockets := s.sockets.map Socket.tick, probes := s.probes.map ProbeUnit.tick, bus := s.bus.tick,
    auth := s.auth.tick, freeze := s.freeze.map Freeze.tick }

end Sys2Proof.Machine
end

