-- ==== Sys2Proof/Machine/Flags.lean ====
section
/-! DEFINITION. The Event Unit's flags: kind codes and subjects (Table 10-5), the pending and reported sets, ATTN
(R182 to R186); and the links' grant-pending flags (R111). -/

namespace Sys2Proof.Machine

/-! ## Events -/

/-- The kind code of an event (Table 10-5). -/
def Event.code : Event → Nat
  | .slot .inserted _ => 0x01
  | .slot .removed _ => 0x02
  | .slot .accepted _ => 0x03
  | .slot .rejected _ => 0x04
  | .slot .refillWarning _ => 0x05
  | .slot .rewindWarning _ => 0x06
  | .slot .foreignWarning _ => 0x07
  | .slot .levelLow _ => 0x08
  | .slot .levelCritical _ => 0x09
  | .slot .levelEmpty _ => 0x0A
  | .slot .probeFault _ => 0x0B
  | .slot .probeDisagree _ => 0x0C
  | .slot .busFault _ => 0x0D
  | .line .switchover _ => 0x0E
  | .line .lineReserve _ => 0x0F
  | .line .lineClosed _ => 0x10
  | .line .fireClosed _ => 0x11
  | .line .orphanInk _ => 0x12
  | .link .linkError _ => 0x13
  | .link .linkOrder _ => 0x14
  | .link .intakeOverflow _ => 0x15
  | .link .unmappedFire _ => 0x16
  | .link .linkDown _ => 0x17
  | .freezeExpired => 0x18

/-- The subject of an event as a number; none is 0 (R184). -/
def Event.subject : Event → Nat
  | .slot _ i => i.val
  | .line _ l => l.val
  | .link _ k => k.val
  | .freezeExpired => 0

/-- The order in which pairs are listed: ascending kind code, then ascending subject (R184). -/
def Event.key (e : Event) : Nat := e.code * 16 + e.subject

/-- Put a pair into a set of pairs, in its place. -/
def insertEvent (e : Event) : List Event → List Event
  | [] => [e]
  | x :: xs => if e.key < x.key then e :: x :: xs else if e.key = x.key then x :: xs else x :: insertEvent e xs

/-- Whether a set of kinds, coded as Table 10-4 codes it, names the kind of a pair. -/
def kindsName (kinds : BitVec 24) (e : Event) : Bool := kinds.getLsbD (e.code - 1)

/-- The level ATTN is driven to: asserted while the pending set holds a pair whose kind is unmasked (R186). -/
def attnLevel (mask : BitVec 24) (pending : List Event) : Bool := pending.any (kindsName mask)

/-- The Event Unit with a new pending set, ATTN driven from it (R186). -/
def EventUnit.withPending (u : EventUnit) (pending : List Event) : EventUnit :=
  { u with pending := pending, attn := attnLevel u.mask pending }

/-- Raise an event (R183). -/
def raise (e : Event) (s : State) : State :=
  if s.events.pending.contains e then s
  else s.setEvents (s.events.withPending (insertEvent e s.events.pending))

/-- Raise an event if a condition holds. -/
def raiseIf (c : Bool) (e : Event) (s : State) : State := if c then raise e s else s

/-! ## Grant-pending flags -/

/-- Mark a channel of a link grant-pending: kept only while the link is UP (R111). -/
def markChannel (k : LinkId) (c : ChannelId) (s : State) : State :=
  if (s.link k).up then
    s.setLink k { s.link k with grantPending := (s.link k).grantPending.set c.val true }
  else s

/-- Mark every channel of a link whose map entry satisfies a condition. -/
def markWhere (p : Option LineId → Bool) (k : LinkId) (s : State) : State :=
  inTurn (fun c s => if p (s.mapEntry k c) then markChannel k c s else s) allChannels s

/-- Mark every channel on either link whose map entry names the line (R11, R152). -/
def markLine (l : LineId) (s : State) : State :=
  inTurn (markWhere (fun e => e == some l)) allLinks s

end Sys2Proof.Machine
end

