-- ==== Sys2Proof/Machine/Levels.lean ====
section
/-! DEFINITION. Level phases (R136 to R145), the commit causes that follow a charge or an EMPTY phase (R158, R162),
the prime debit (R133) and the re-evaluation of a colour line (R146 to R154). -/

namespace Sys2Proof.Machine

/-! ## Level phases -/

/-- Severity of a phase (R138): UNTRACKED, like NORMAL, ranks below the others. -/
def Phase.severity : Phase → Nat
  | .normal => 0
  | .untracked => 0
  | .low => 1
  | .critical => 2
  | .empty => 3

/-- The empty floor of a profile entry; 0 where the entry is absent, which no READY slot finds (R124). -/
def floorOf (s : State) (p : ProfileId) : Nat :=
  match s.profile p with
  | some entry => entry.emptyFloor
  | none => 0

/-- The computed level phase of a TRACKED READY slot (R139). -/
def computedPhase (s : State) (r : SlotRecord) : Phase :=
  match r.identity with
  | none => .normal
  | some id =>
    if r.depleted || r.earlyDry || decide (remaining id r ≤ floorOf s id.profile) then .empty
    else if remaining id r ≤ id.fill * s.thresholds.critical then .critical
    else if remaining id r ≤ id.fill * s.thresholds.low then .low
    else .normal

/-- Raise the level event of every phase more severe than `old` and not more severe than `new` (R140, step 1). -/
def raiseLevels (i : SlotId) (old new : Nat) (s : State) : State :=
  raiseIf (decide (old < 3) && decide (3 ≤ new)) (.slot .levelEmpty i)
    (raiseIf (decide (old < 2) && decide (2 ≤ new)) (.slot .levelCritical i)
      (raiseIf (decide (old < 1) && decide (1 ≤ new)) (.slot .levelLow i) s))

/-- The hand-on of a slot whose phase has become EMPTY (R162). -/
def handOnEmpty (i : SlotId) (s : State) : State :=
  if (s.slot i).readyGenuine then addNeed i .markDepleted (addNeed i .commit s) else s

/-- Evaluate the phase of a slot (R140), but for the re-evaluation of its line. -/
def evaluatePhase (i : SlotId) (s : State) : State :=
  let r := s.slot i
  let old := (r.phase.getD .normal).severity
  let new := computedPhase s r
  if r.state = .ready ∧ r.tracking = .tracked ∧ old < new.severity then
    let s := raiseLevels i old new.severity (s.setSlot i { r with phase := some new })
    if new = .empty then handOnEmpty i s else s
  else s

/-- The commit test after a debit or a prime (R158). -/
def commitTest (i : SlotId) (s : State) : State :=
  if (s.slot i).provenance = some .genuine ∧ s.policy.commitQuantum * markVolume ≤ unclaimed s i then
    addNeed i .commit s
  else s

/-! ## Line re-evaluation -/

/-- The number of the slot the active field names (R113, R124). -/
def LineRecord.activeSlot (r : LineRecord) : SlotId :=
  match r.active with
  | .a => r.slotA
  | .b => r.slotB.getD r.slotA

/-- The line's slot that is not the active one, where it has one (R148). -/
def LineRecord.otherSlot (r : LineRecord) : Option SlotId :=
  match r.active, r.slotB with
  | _, none => none
  | .a, some b => some b
  | .b, some _ => some r.slotA

/-- The other side. -/
def ActiveSide.flip : ActiveSide → ActiveSide
  | .a => .b
  | .b => .a

/-- Give a slot its placement (R7). -/
def place (i : SlotId) (l : Option LineId) (role : Role) (s : State) : State :=
  s.setSlot i { s.slot i with line := l, role := role }

/-- The slot the line may switch to (R148): the other slot, when the active slot is not usable and the other is. -/
def switchTarget (s : State) (l : LineId) : Option SlotId :=
  if (s.slot (s.line l).activeSlot).usable then none
  else match (s.line l).otherSlot with
    | some o => if (s.slot o).usable then some o else none
    | none => none

/-- The switch to a slot (R148) with its reserve refill (R149). -/
def switchTo (l : LineId) (o : SlotId) (s : State) : State :=
  let r := s.line l
  raise (.line .switchover l)
    (place r.activeSlot (some l) .standby
      (place o (some l) .active
        (s.setLine l { r with active := r.active.flip, reserveRemaining := r.reserve })))

/-- The switch step (R148). -/
def switchStep (l : LineId) (s : State) : State :=
  match switchTarget s l with
  | some o => switchTo l o s
  | none => s

/-- The reserve refill of a first pass (R149): `entered` is the slot whose entry to READY calls for the
re-evaluation, and no switch is to be made. -/
def refillOnEntry (l : LineId) (entered : Option SlotId) (s : State) : State :=
  if entered = some (s.line l).activeSlot ∧ (s.slot (s.line l).activeSlot).usable then
    s.setLine l { s.line l with reserveRemaining := (s.line l).reserve }
  else s

/-- Whether the active slot of the line takes its prime now (R132, R150). -/
def primeDue (s : State) (l : LineId) : Bool :=
  let r := s.slot (s.line l).activeSlot
  r.usable && !r.primed

/-- The prime volume of a slot: that of the entry named by its identity, as the table holds it (R133). -/
def primeVolume (s : State) (r : SlotRecord) : Nat :=
  match r.identity with
  | some id => ((s.profile id.profile).map Profile.prime).getD 0
  | none => 0

/-- The prime debit of the line's active slot (R133) with its hand-on: the commit test and the phase. -/
def primeDebit (l : LineId) (s : State) : State :=
  let i := (s.line l).activeSlot
  let r := s.slot i
  let v := primeVolume s r
  let s := s.setSlot i { r with consumed := satAdd maxWord32 r.consumed v, primed := true }
  let s := s.setLine l { s.line l with debited := satAdd maxWord64 (s.line l).debited v }
  evaluatePhase i (commitTest i s)

/-- The passes after the first (R150): switch, refill, prime. A pass that takes a prime is followed by another. -/
def laterPasses (l : LineId) : Nat → State → State
  | 0, s => s
  | n + 1, s =>
    let s := switchStep l s
    if primeDue s l then laterPasses l n (primeDebit l s) else s

/-- All the passes of a re-evaluation (R148 to R150): at most three. -/
def passes (l : LineId) (entered : Option SlotId) (s : State) : State :=
  let s := match switchTarget s l with
    | some o => switchTo l o s
    | none => refillOnEntry l entered s
  if primeDue s l then laterPasses l 2 (primeDebit l s) else s

/-- The grant a configured line takes (R151). -/
def grantOf (s : State) (l : LineId) : Grant :=
  let r := s.slot (s.line l).activeSlot
  if s.supplyHold then .closed
  else if r.usable then .opened
  else if r.state = .ready ∧ r.phase = some .empty ∧ 0 < (s.line l).reserveRemaining then .reserve
  else .closed

/-- The line event of a changed grant (R152). -/
def raiseGrantChange (l : LineId) (old new : Grant) (s : State) : State :=
  raiseIf (old != new && new == .closed) (.line .lineClosed l)
    (raiseIf (old != new && new == .reserve) (.line .lineReserve l) s)

/-- The grant step, and the events and marking against the grant and active field before the first pass
(R151, R152). -/
def settleGrant (l : LineId) (oldGrant : Grant) (oldActive : ActiveSide) (s : State) : State :=
  let g := grantOf s l
  let s := raiseGrantChange l oldGrant g (s.setLine l { s.line l with grant := g })
  if oldGrant ≠ g ∨ oldActive ≠ (s.line l).active then markLine l s else s

/-- Re-evaluate a configured line (R147). `entered` names the slot whose entry to READY calls for it, if that is
what does. An unconfigured line is not re-evaluated. -/
def reevaluate (l : LineId) (entered : Option SlotId) (s : State) : State :=
  if (s.line l).configured then
    settleGrant l (s.line l).grant (s.line l).active (passes l entered s)
  else s

/-- Re-evaluate the line of a slot, when it has one. -/
def reevaluateLineOf (i : SlotId) (entered : Option SlotId) (s : State) : State :=
  match (s.slot i).line with
  | some l => reevaluate l entered s
  | none => s

/-- Evaluate the phase of a slot and, if it advances, re-evaluate its line (R140, steps 1 to 3). -/
def evaluateSlot (i : SlotId) (s : State) : State :=
  let s' := evaluatePhase i s
  if (s'.slot i).phase ≠ (s.slot i).phase then reevaluateLineOf i none s' else s'

/-- Re-evaluate every configured line in ascending line number (R154). -/
def reevaluateAll (s : State) : State := inTurn (fun l s => reevaluate l none s) allLines s

/-- Evaluate every TRACKED READY slot in ascending slot number (R120, R137). -/
def evaluateAll (s : State) : State := inTurn evaluateSlot allSlots s

end Sys2Proof.Machine
end

