-- ==== Sys2Proof/Machine/Wire.lean ====
section
/-! DEFINITION. Bytes on the wires: byte order, the three cyclic redundancy checks, and the frames of the Cartridge
Bus (R21 to R24), the Engine Links (R93, R94) and the Formatter Port (R172, R174). -/

namespace Sys2Proof.Machine

/-! ## Byte order: most significant byte first (R20, R93, R172) -/

/-- The low `count` bytes of a number, most significant first. -/
def bytesOf : Nat → Nat → List Byte
  | 0, _ => []
  | count + 1, n => bytesOf count (n / 256) ++ [BitVec.ofNat 8 n]

/-- The number that a run of bytes spells, most significant first. -/
def numberOf (bytes : List Byte) : Nat :=
  bytes.foldl (fun acc b => acc * 256 + b.toNat) 0

/-! ## Cyclic redundancy checks, each byte taken most significant bit first, no final inversion -/

/-- Shift one bit through a CRC register with generator `poly` (its top term left out). -/
def crcShift {w : Nat} (poly reg : BitVec w) : BitVec w :=
  if reg.msb then (reg <<< 1) ^^^ poly else reg <<< 1

/-- Take one byte into a CRC register. -/
def crcByte {w : Nat} (poly reg : BitVec w) (b : Byte) : BitVec w :=
  (List.range 8).foldl (fun r _ => crcShift poly r) (reg ^^^ ((b.setWidth w) <<< (w - 8)))

/-- The CRC of a run of bytes, from the given starting value. -/
def crcOf {w : Nat} (poly init : BitVec w) (bytes : List Byte) : BitVec w :=
  bytes.foldl (crcByte poly) init

/-- The CRC-8 of the Cartridge Bus: x^8 + x^5 + x^3 + x^2 + x + 1 from 0xFF (R21). -/
def cartridgeCrc (bytes : List Byte) : Byte := crcOf (0x2F : BitVec 8) 0xFF bytes

/-- The CRC-8 of the Engine Links: x^8 + x^2 + x + 1 from 0x00 (R93). -/
def engineCrc (bytes : List Byte) : Byte := crcOf (0x07 : BitVec 8) 0x00 bytes

/-- The CRC-16 of the Formatter Port: x^16 + x^12 + x^5 + 1 from 0xFFFF (R172). -/
def portCrc (bytes : List Byte) : BitVec 16 := crcOf (0x1021 : BitVec 16) 0xFFFF bytes

/-! ## Cartridge Bus frames -/

/-- The command code that serves a need (Table 2-1, Table 2-5). -/
def commandCode : Need → Byte
  | .identify => 0x1E
  | .challenge => 0x2D
  | .commit => 0x4B
  | .markDepleted => 0x78

/-- The timeout of the command that serves a need, in ms (Table 2-4). -/
def commandTimeout : Need → Nat
  | .identify => 10
  | .challenge => 15
  | .commit => 10
  | .markDepleted => 10

/-- The number of payload bytes in a response with status OK (Table 2-4). -/
def responsePayloadLength : Need → Nat
  | .identify => 16
  | .challenge => 11
  | .commit => 2
  | .markDepleted => 0

/-- The bytes of a command's payload (Table 2-4). -/
def payloadBytes : Payload → List Byte
  | .empty => []
  | .challenge c => bytesOf 8 c.toNat
  | .count n => bytesOf 1 n

/-- Byte 0 of a command frame, and the address echo of its response: 0xA0 plus the slot number (R21, R22). -/
def addressByte (slot : SlotId) : Byte := BitVec.ofNat 8 (0xA0 + slot.val)

/-- A command frame (Table 2-1). -/
def commandFrame (slot : SlotId) (need : Need) (payload : Payload) : List Byte :=
  let body := addressByte slot :: commandCode need :: payloadBytes payload
  body ++ [cartridgeCrc body]

/-- What the bytes received so far make of a response (R22). -/
inductive ResponseReading where
  /-- More bytes are awaited. -/
  | incomplete
  /-- The first byte is not the address echo. -/
  | wrongEcho
  /-- The CRC-8 does not match. -/
  | crcError
  /-- A correct frame with a status other than OK. -/
  | statusError
  /-- A complete response, with its payload. -/
  | complete (payload : List Byte)
  deriving DecidableEq, Repr

/-- Read a response to the command that serves `need` at `slot`, byte by byte in the order of R22. Bytes after the
frame's last byte are ignored (R20). -/
def readResponse (slot : SlotId) (need : Need) : List Byte → ResponseReading
  | [] => .incomplete
  | echo :: rest =>
    if echo ≠ addressByte slot then .wrongEcho
    else match rest with
      | [] => .incomplete
      | status :: rest =>
        let length := if status = 0 then responsePayloadLength need else 0
        let payload := rest.take length
        match rest.drop length with
        | [] => .incomplete
        | crc :: _ =>
          if cartridgeCrc (echo :: status :: payload) ≠ crc then .crcError
          else if status ≠ 0 then .statusError
          else .complete payload

/-- The response frame with status OK that carries a payload (Table 2-2). -/
def okResponse (slot : SlotId) (payload : List Byte) : List Byte :=
  let body := addressByte slot :: 0x00 :: payload
  body ++ [cartridgeCrc body]

/-- The payload of a READ RECORD response, decoded as R23 gives. -/
def decodeRecord (p : List Byte) : RecordPayload :=
  { serial := BitVec.ofNat 64 (numberOf (p.take 8)),
    colour := BitVec.ofNat 4 (numberOf ((p.drop 8).take 1) / 16),
    profile := BitVec.ofNat 4 (numberOf ((p.drop 8).take 1)),
    fill := BitVec.ofNat 24 (numberOf ((p.drop 9).take 3)),
    keyIndex := BitVec.ofNat 8 (numberOf ((p.drop 12).take 1)),
    marks := BitVec.ofNat 16 (numberOf ((p.drop 13).take 2)),
    depleted := BitVec.ofNat 8 (numberOf ((p.drop 15).take 1)) }

/-- The sixteen payload bytes of a READ RECORD response (Table 2-3). -/
def encodeRecord (r : RecordPayload) : List Byte :=
  bytesOf 8 r.serial.toNat ++ [BitVec.ofNat 8 (r.colour.toNat * 16 + r.profile.toNat)] ++ bytesOf 3 r.fill.toNat
    ++ [r.keyIndex] ++ bytesOf 2 r.marks.toNat ++ [r.depleted]

/-- The thirteen bytes of an identity record, the input of the tag function (R23, R27), as one number with byte 0 at
its most significant end. -/
def identityBits (id : Identity) : BitVec 104 :=
  BitVec.ofNat 104
    ((((id.serial.toNat * 16 + id.colour.toNat) * 16 + id.profile.val) * 2 ^ 24 + id.fill) * 256 + id.keyIndex.val)

/-! ## Engine Link frames -/

/-- A frame the engine may send, once it has passed the checks of R94. -/
inductive EngineFrame where
  | count (size : DropSize) (channel : ChannelId) (count : Nat)
  | band (value : Byte)
  | sync
  | query
  deriving DecidableEq, Repr

/-- The checks of R94 on the bytes of one frame: none is a bad frame. -/
def readEngineFrame (bytes : List Byte) : Option EngineFrame :=
  match bytes with
  | [b0, b1, b2, crc] =>
    if engineCrc [b0, b1, b2] ≠ crc then none
    else
      let kind := b0.toNat / 16
      let channel := b0.toNat % 16
      let value := numberOf [b1, b2]
      let counted (size : DropSize) : Option EngineFrame :=
        if h : channel < 12 then some (.count size ⟨channel, h⟩ value) else none
      if kind = 1 then counted .s
      else if kind = 2 then counted .m
      else if kind = 3 then counted .l
      else if kind = 4 then some (.band b1)
      else if kind = 5 then some .sync
      else if kind = 6 then some .query
      else none
  | _ => none

/-- Byte 1 of a GRANT frame (Table 6-2). -/
def grantByte : Grant → Byte
  | .closed => 0x00
  | .reserve => 0x01
  | .opened => 0x02

/-- The four bytes of a GRANT frame (Table 6-1, Table 6-2); `slot` is 15 where it means none (R113). -/
def grantFrameBytes (channel : ChannelId) (g : Grant) (slot : SlotId) : List Byte :=
  let body := [BitVec.ofNat 8 (0x80 + channel.val), grantByte g, BitVec.ofNat 8 slot.val]
  body ++ [engineCrc body]

/-! ## Formatter Port frames -/

/-- What the MOSI bytes of a request transfer make of a request frame (R172), with the number of bytes up to the
end of the frame or to the byte at which the error is taken. -/
inductive RequestReading where
  | frameError (used : Nat)
  | taken (code : Byte) (payload : List Byte) (used : Nat)
  deriving DecidableEq, Repr

/-- Read the request frame of a request transfer whose MOSI bytes these are, CS_N being deasserted after the last
(R172). -/
def readRequest (mosi : List Byte) : RequestReading :=
  match mosi with
  | _ :: l1 :: l0 :: _ =>
    let length := numberOf [l1, l0]
    if 64 < length then .frameError 3
    else if mosi.length < 6 + length then .frameError mosi.length
    else if (mosi.drop (4 + length)).take 2 ≠ bytesOf 2 (portCrc (mosi.take (4 + length))).toNat then
      .frameError (6 + length)
    else .taken ((mosi.drop 3).headD 0) ((mosi.drop 4).take length) (6 + length)
  | _ => .frameError mosi.length

/-- A request frame (Table 10-2). -/
def requestFrame (code : Byte) (payload : List Byte) : List Byte :=
  let body := 0xC3 :: (bytesOf 2 payload.length ++ code :: payload)
  body ++ bytesOf 2 (portCrc body).toNat

/-- The status of a response (Table 10-3). -/
inductive Status where
  | ok | clamped | denied | badArg | frameError | unknownRequest
  deriving DecidableEq, Repr

/-- The status byte (Table 10-3). -/
def Status.code : Status → Byte
  | .ok => 0x00
  | .clamped => 0x01
  | .denied => 0x02
  | .badArg => 0x03
  | .frameError => 0x04
  | .unknownRequest => 0x05

/-- A response: its status and its payload (R174). -/
structure Reply where
  status  : Status
  payload : List Byte
  deriving DecidableEq, Repr

/-- A response frame (Table 10-3). -/
def responseFrame (r : Reply) : List Byte :=
  let body := 0xC3 :: r.status.code :: (bytesOf 2 r.payload.length ++ r.payload)
  body ++ bytesOf 2 (portCrc body).toNat

end Sys2Proof.Machine
end

