-- ==== Sys2Proof/Machine/Links.lean ====
section
/-! DEFINITION. The Engine Links: link state (R96, R97), bands (R98), report assembly (R99 to R102), the intake path
(R103, R104, R106), link totals (R109), bad frames (R94), QUERY (R115) and grant output (R112, R113). -/

namespace Sys2Proof.Machine

/-! ## Totals -/

/-- Counts added to three totals, each saturating at 2^48 - 1 (R109). -/
def DropTotals.add (t : DropTotals) (s m l : Nat) : DropTotals :=
  { s := satAdd maxWord48 t.s s, m := satAdd maxWord48 t.m m, l := satAdd maxWord48 t.l l }

/-- A frame's count added to the total of its size. -/
def DropTotals.addSize (t : DropTotals) (x : DropSize) (n : Nat) : DropTotals :=
  match x with
  | .s => t.add n 0 0
  | .m => t.add 0 n 0
  | .l => t.add 0 0 n

/-! ## The intake path -/

/-- An accumulator with a report folded into it (R104). -/
def Accumulator.fold (a : Accumulator) (r : Report) : Accumulator :=
  { sSum := satAdd maxWord32 a.sSum r.ns, mSum := satAdd maxWord32 a.mSum r.nm, lSum := satAdd maxWord32 a.lSum r.nl,
    band := r.band }

/-- The accumulator of a channel. -/
def EngineLink.accumulator (k : EngineLink) (c : ChannelId) : Accumulator := k.accumulators[c.val]

/-- A report added at the tail of a FIFO that has room (R103, R106). -/
def EngineLink.enqueue (k : EngineLink) (r : Report) : EngineLink :=
  { k with fifo := k.fifo ++ [r], hold := if k.fifo.length + 1 = 12 then true else k.hold }

/-- A report folded into the accumulator of its channel, what saturation turns away going to the lost totals
(R104). -/
def EngineLink.foldReport (k : EngineLink) (r : Report) : EngineLink :=
  let a := k.accumulator r.channel
  { k with
    accumulators := k.accumulators.set r.channel.val (a.fold r),
    lost := k.lost.add (a.sSum + r.ns - maxWord32) (a.mSum + r.nm - maxWord32) (a.lSum + r.nl - maxWord32) }

/-- A report formed on a link enters its intake path (R102 to R104). -/
def takeInReport (k : LinkId) (r : Report) (s : State) : State :=
  let e := s.link k
  if e.fifo.length < fifoDepth then s.setLink k (e.enqueue r)
  else raise (.link .intakeOverflow k) (s.setLink k (e.foldReport r))

/-- The report an assembly forms, with a count of L and the link's band (R102). -/
def Assembly.report (a : Assembly) (nl : Nat) (band : Band) (isPartial : Bool) : Report :=
  { channel := a.channel, ns := a.sCount.getD 0, nm := a.mCount.getD 0, nl := nl, band := band,
    isPartial := isPartial }

/-- Set or clear a link's open assembly. -/
def setAssembly (k : LinkId) (a : Option Assembly) (s : State) : State :=
  s.setLink k { s.link k with assembly := a }

/-- An assembly becomes a report, with a count of L (R102). -/
def formReport (k : LinkId) (a : Assembly) (nl : Nat) (isPartial : Bool) (s : State) : State :=
  takeInReport k (a.report nl (s.link k).band isPartial) (setAssembly k none s)

/-- Close an open assembly, if there is one, as partial (R97, R100, R101). -/
def closePartial (k : LinkId) (s : State) : State :=
  match (s.link k).assembly with
  | some a => formReport k a 0 true s
  | none => s

/-! ## Report assembly -/

/-- Whether a frame extends an open assembly (R99). -/
def Assembly.takes (a : Assembly) (c : ChannelId) : DropSize → Bool
  | .s => a.channel == c && a.sCount.isNone && a.mCount.isNone
  | .m => a.channel == c && a.mCount.isNone
  | .l => a.channel == c

/-- Hold a frame's count in an assembly; an L count completes it (R99). -/
def holdCount (k : LinkId) (a : Assembly) (x : DropSize) (n : Nat) (s : State) : State :=
  match x with
  | .s => setAssembly k (some { a with sCount := some n }) s
  | .m => setAssembly k (some { a with mCount := some n }) s
  | .l => formReport k a n false s

/-- An assembly as it opens for a channel (R99). -/
def Assembly.opened (c : ChannelId) (band : Band) : Assembly :=
  { channel := c, sCount := none, mCount := none, bandOpening := band }

/-- Open an assembly from a frame (R99). -/
def openAssembly (k : LinkId) (c : ChannelId) (x : DropSize) (n : Nat) (s : State) : State :=
  holdCount k (Assembly.opened c (s.link k).band) x n s

/-- Add a frame's count to the accepted totals (R99, R109). -/
def countAccepted (k : LinkId) (x : DropSize) (n : Nat) (s : State) : State :=
  s.setLink k { s.link k with accepted := (s.link k).accepted.addSize x n }

/-- An accepted COUNT frame (R99, R100). -/
def takeCount (k : LinkId) (x : DropSize) (c : ChannelId) (n : Nat) (s : State) : State :=
  let s := countAccepted k x n s
  match (s.link k).assembly with
  | none => openAssembly k c x n s
  | some a =>
    if a.takes c x then holdCount k a x n s
    else openAssembly k c x n (raise (.link .linkOrder k) (formReport k a 0 true s))

/-! ## The other frames -/

/-- The band a BAND frame's byte 1 gives (R98). -/
def bandOf (b : Byte) : Band := if h : b.toNat < 8 then ⟨b.toNat, h⟩ else 7

/-- An accepted BAND frame (R98). -/
def takeBand (k : LinkId) (b : Byte) (s : State) : State := s.setLink k { s.link k with band := bandOf b }

/-- Every channel enters the grant pending set (R96, R115). -/
def pendAll (k : LinkId) (s : State) : State :=
  s.setLink k { s.link k with grantPending := Vector.replicate 12 true }

/-- A bad frame (R94). -/
def takeBadFrame (k : LinkId) (s : State) : State :=
  raise (.link .linkError k)
    (s.setLink k { s.link k with errorCount := satAdd maxWord32 (s.link k).errorCount 1 })

/-- An accepted frame is acted on as its kind requires (R94). -/
def takeFrame (k : LinkId) (f : EngineFrame) (s : State) : State :=
  match f with
  | .count x c n => takeCount k x c n s
  | .band b => takeBand k b s
  | .sync => closePartial k s
  | .query => pendAll k s

/-- The bytes of a frame are checked (R94). -/
def takeFrameBytes (k : LinkId) (bytes : List Byte) (s : State) : State :=
  match readEngineFrame bytes with
  | some f => takeFrame k f s
  | none => takeBadFrame k s

/-- A frame with a correct CRC and a COUNT kind: channels 12 to 15 make it a bad frame (R94). -/
def takeCountFrame (k : LinkId) (x : DropSize) (c : BitVec 4) (n : BitVec 16) (s : State) : State :=
  match channelArg (c.setWidth 8) with
  | some c => takeCount k x c n.toNat s
  | none => takeBadFrame k s

/-- What a frame does reaches the link only while it is UP (R94). -/
def whileUp (k : LinkId) (f : State → State) (s : State) : State := if (s.link k).up then f s else s

/-! ## Link state -/

/-- A link comes UP (R96). -/
def comeUp (k : LinkId) (s : State) : State :=
  if (s.link k).up then s
  else pendAll k (s.setLink k { s.link k with up := true, band := 4 })

/-- A link goes DOWN (R97). -/
def goDown (k : LinkId) (s : State) : State :=
  let s := closePartial k s
  raise (.link .linkDown k)
    (s.setLink k
      { s.link k with grantFrame := none, grantPending := Vector.replicate 12 false, up := false })

/-- LINK_EN takes a level. -/
def setLinkEn (k : LinkId) (level : Bool) (s : State) : State := s.setLink k { s.link k with linkEn := level }

/-! ## Grant output -/

/-- The lowest channel of the grant pending set (R112). -/
def EngineLink.nextGrant (k : EngineLink) : Option ChannelId := allChannels.find? (fun c => k.grantPending[c.val])

/-- The bytes of the GRANT frame for a channel whose map entry this is (R113). -/
def grantBytes (s : State) (c : ChannelId) : Option LineId → List Byte
  | some l =>
    if (s.line l).configured then grantFrameBytes c (s.line l).grant (s.line l).activeSlot
    else grantFrameBytes c .closed 15
  | none => grantFrameBytes c .closed 15

/-- Begin a GRANT frame for the lowest pending channel (R112). -/
def beginGrant (k : LinkId) (s : State) : State :=
  let e := s.link k
  match e.grantFrame, e.nextGrant with
  | none, some c =>
    s.setLink k
      { e with
        grantPending := e.grantPending.set c.val false,
        grantFrame := some { channel := c, bytes := grantBytes s c (s.mapEntry k c) } }
  | _, _ => s

/-- The last byte of a GRANT frame has been sent (R112). -/
def endGrant (k : LinkId) (s : State) : State := s.setLink k { s.link k with grantFrame := none }

/-! ## Meanings -/

/-- LINK_UP (R96). In reset LINK_EN is only a level. -/
def execLinkUp (link : LinkId) (s : State) : Host.Outcome State Fault Refusal :=
  .next (operating (comeUp link) (setLinkEn link true s))

/-- LINK_DOWN (R97). In reset LINK_EN is only a level. -/
def execLinkDown (link : LinkId) (s : State) : Host.Outcome State Fault Refusal :=
  .next (operating (whileUp link (goDown link)) (setLinkEn link false s))

/-- COUNT_S (R99, R100). -/
def execCountS (link : LinkId) (channel : BitVec 4) (count : BitVec 16) (s : State) :
    Host.Outcome State Fault Refusal :=
  .next (operating (whileUp link (takeCountFrame link .s channel count)) s)

/-- COUNT_M (R99, R100). -/
def execCountM (link : LinkId) (channel : BitVec 4) (count : BitVec 16) (s : State) :
    Host.Outcome State Fault Refusal :=
  .next (operating (whileUp link (takeCountFrame link .m channel count)) s)

/-- COUNT_L (R99, R100). -/
def execCountL (link : LinkId) (channel : BitVec 4) (count : BitVec 16) (s : State) :
    Host.Outcome State Fault Refusal :=
  .next (operating (whileUp link (takeCountFrame link .l channel count)) s)

/-- BAND (R98). -/
def execBand (link : LinkId) (value : Byte) (s : State) : Host.Outcome State Fault Refusal :=
  .next (operating (whileUp link (takeBand link value)) s)

/-- SYNC (R101). -/
def execSync (link : LinkId) (s : State) : Host.Outcome State Fault Refusal :=
  .next (operating (whileUp link (closePartial link)) s)

/-- QUERY (R115). -/
def execQuery (link : LinkId) (s : State) : Host.Outcome State Fault Refusal :=
  .next (operating (whileUp link (pendAll link)) s)

/-- BAD_FRAME (R94): bytes that pass the checks are the frame they spell. -/
def execBadFrame (link : LinkId) (bytes : List Byte) (s : State) : Host.Outcome State Fault Refusal :=
  .next (operating (whileUp link (takeFrameBytes link bytes)) s)

/-- GRANT (R112, R113). -/
def execGrant (link : LinkId) (s : State) : Host.Outcome State Fault Refusal :=
  .next (operating (whileUp link (beginGrant link)) s)

/-- GRANT_FRAME_END (R112). -/
def execGrantFrameEnd (link : LinkId) (s : State) : Host.Outcome State Fault Refusal :=
  .next (operating (endGrant link) s)

end Sys2Proof.Machine
end

