-- ==== Sys2Proof/Machine/Accounting.lean ====
section
/-! DEFINITION. The Intake Arbiter (R105 to R107) and the Accounting Unit: the stages of accounting a report (R122 to
R131). -/

namespace Sys2Proof.Machine

/-! ## The Intake Arbiter -/

/-- The link that is not this one. -/
def otherLink (k : LinkId) : LinkId := if k = 0 then 1 else 0

/-- The link the arbiter takes a report from (R107). -/
def arbitrated (s : State) : Option LinkId :=
  let other := otherLink s.lastServedLink
  if (s.link other).fifo.isEmpty = false then some other
  else if (s.link s.lastServedLink).fifo.isEmpty = false then some s.lastServedLink
  else none

/-- Whether an accumulator is non-empty (R104). -/
def Accumulator.nonEmpty (a : Accumulator) : Bool := 0 < a.sSum || 0 < a.mSum || 0 < a.lSum

/-- The lowest channel whose accumulator is non-empty (R105). -/
def EngineLink.nextDrain (k : EngineLink) : Option ChannelId :=
  allChannels.find? (fun c => (k.accumulator c).nonEmpty)

/-- The report an accumulator drains into (R105). -/
def Accumulator.report (a : Accumulator) (c : ChannelId) : Report :=
  { channel := c, ns := a.sSum, nm := a.mSum, nl := a.lSum, band := a.band, isPartial := true }

/-- Drain the accumulator of a channel into the tail of the FIFO (R105). -/
def EngineLink.drain (k : EngineLink) (c : ChannelId) : EngineLink :=
  { k with
    fifo := k.fifo ++ [(k.accumulator c).report c],
    accumulators := k.accumulators.set c.val { k.accumulator c with sSum := 0, mSum := 0, lSum := 0 } }

/-- A FIFO once its head has been removed, HOLD released at 8 reports (R106). -/
def EngineLink.dequeue (k : EngineLink) (rest : List Report) : EngineLink :=
  { k with fifo := rest, hold := if rest.length = 8 then false else k.hold }

/-- The removal of the head of a FIFO, with the drain of a full one (R105, R106). -/
def EngineLink.removeHead (k : EngineLink) (rest : List Report) : EngineLink :=
  if k.fifo.length = fifoDepth then
    match k.nextDrain with
    | some c => (k.dequeue rest).drain c
    | none => k.dequeue rest
  else k.dequeue rest

/-! ## Stages 0 to 3 -/

/-- The raw volume of a report, in cpL (R125). -/
def rawVolume (p : Profile) (r : Report) : Nat := r.ns * p.vs + r.nm * p.vm + r.nl * p.vl

/-- The corrected volume, in cpL (R126). -/
def correctedVolume (raw factor : Nat) : Nat := (raw * factor + 512) / 1024

/-- Stage 0: the drop totals of the line (R124, step 1). -/
def LineRecord.addDrops (l : LineRecord) (r : Report) : LineRecord :=
  { l with
    dropsS := satAdd maxWord48 l.dropsS r.ns, dropsM := satAdd maxWord48 l.dropsM r.nm,
    dropsL := satAdd maxWord48 l.dropsL r.nl }

/-- An unmapped report (R123). -/
def accountUnmapped (k : LinkId) (r : Report) (s : State) : State :=
  raise (.link .unmappedFire k)
    (s.setLink k { s.link k with unmapped := (s.link k).unmapped.add r.ns r.nm r.nl })

/-- The number of the profile that values a report for the line (R124, step 3). -/
def profileNumber (s : State) (l : LineId) : ProfileId :=
  let r := s.slot (s.line l).activeSlot
  match r.state, r.identity with
  | .ready, some id => id.profile
  | _, _ => (s.line l).defaultProfile

/-- Whether the line's active slot is READY. -/
def feedsReady (s : State) (l : LineId) : Bool := (s.slot (s.line l).activeSlot).state == .ready

/-! ## Stage 4 -/

/-- Closed-fire (R129): nothing unless the grant is CLOSED. -/
def chargeClosedFire (l : LineId) (debit : Nat) (s : State) : State :=
  if (s.line l).grant = .closed then
    raise (.line .fireClosed l)
      (s.setLine l { s.line l with closedFire := satAdd maxWord32 (s.line l).closedFire debit })
  else s

/-- What a debit under a RESERVE grant spends (R128). -/
def LineRecord.spend (r : LineRecord) (debit : Nat) : LineRecord :=
  if r.grant = .reserve then { r with reserveRemaining := r.reserveRemaining - debit } else r

/-- The charge of a debit to the READY active slot (R128, R129). -/
def chargeSlot (l : LineId) (debit : Nat) (s : State) : State :=
  let i := (s.line l).activeSlot
  let s := s.setSlot i { s.slot i with consumed := satAdd maxWord32 (s.slot i).consumed debit }
  let r := s.line l
  chargeClosedFire l debit (s.setLine l ({ r with debited := satAdd maxWord64 r.debited debit }.spend debit))

/-- The charge of a debit as orphan volume (R129, R130). -/
def chargeOrphan (l : LineId) (debit : Nat) (s : State) : State :=
  let s := s.setLine l { s.line l with orphan := satAdd maxWord32 (s.line l).orphan debit }
  chargeClosedFire l debit (raise (.line .orphanInk l) s)

/-! ## Stage 5 and the whole -/

/-- The hand-on of a debit charged to the line's READY active slot (R131). -/
def handOn (l : LineId) (i : SlotId) (s : State) : State :=
  reevaluate l none (evaluatePhase i (commitTest i s))

/-- Stage 3 to 5 for a line, its profile entry and a corrected volume (R127 to R131). -/
def chargeVolume (l : LineId) (corrected : Nat) (s : State) : State :=
  let total := (s.line l).residue + corrected
  let debit := total / 100000
  let s := s.setLine l { s.line l with residue := total % 100000 }
  if feedsReady s l then handOn l (s.line l).activeSlot (chargeSlot l debit s) else chargeOrphan l debit s

/-- Account a report for a configured line (R124 to R131). A READY active slot with no profile entry is charged nothing
(DESIGN CHOICE: assumption log entry 15). -/
def accountLine (l : LineId) (r : Report) (s : State) : State :=
  let s := s.setLine l ((s.line l).addDrops r)
  match s.profile (profileNumber s l) with
  | some p => chargeVolume l (correctedVolume (rawVolume p r) (s.factor r.band)) s
  | none => if feedsReady s l then s else raise (.line .orphanInk l) s

/-- Account a report taken from a link (R122 to R131). -/
def accountReport (k : LinkId) (r : Report) (s : State) : State :=
  match s.mapEntry k r.channel with
  | some l => if (s.line l).configured then accountLine l r s else accountUnmapped k r s
  | none => accountUnmapped k r s

/-- The Accounting Unit is ready for a report (R107, R122): nothing happens where no FIFO holds one. -/
def takeReport (s : State) : State :=
  match arbitrated s with
  | none => s
  | some k =>
    match (s.link k).fifo with
    | [] => s
    | r :: rest =>
      accountReport k r ((s.setLink k ((s.link k).removeHead rest)).setLastServedLink k)

/-- ACCOUNT_REPORT (R122). -/
def execAccountReport (s : State) : Host.Outcome State Fault Refusal := .next (operating takeReport s)

end Sys2Proof.Machine
end

