-- ==== Sys2Proof/Machine/Slots.lean ====
section
/-! DEFINITION. The life of a slot: verdicts and their warnings (R51, R53), rejection (R44), acceptance (R54, R141),
change of provenance (R57), the entry to FAULT (R35), insertion and removal (R42, R43), the probe's word on a level
(R144) and the colour recheck (R12). -/

namespace Sys2Proof.Machine

/-! ## Verdicts -/

/-- Severity of a provenance (R51). -/
def Provenance.severity : Provenance → Nat
  | .genuine => 0
  | .refilled => 1
  | .rewound => 2
  | .foreign _ => 3

/-- Whether a provenance is FOREIGN, whatever its cause. -/
def Provenance.isForeign : Provenance → Bool
  | .foreign _ => true
  | _ => false

/-- The warning of a verdict (R51, Table 5-4). -/
def Provenance.warning : Provenance → Option SlotEvent
  | .genuine => none
  | .refilled => some .refillWarning
  | .rewound => some .rewindWarning
  | .foreign _ => some .foreignWarning

/-- Give a slot a provenance; its warning is raised when the value of the verdict, leaving the cause aside, changes
(R51). Tracking is TRACKED exactly while provenance is GENUINE (R1). -/
def setProvenance (i : SlotId) (p : Provenance) (s : State) : State :=
  let r := s.slot i
  let s := s.setSlot i { r with provenance := some p, tracking := if p = .genuine then .tracked else .untracked }
  match p.warning with
  | some w => raiseIf (r.provenance.map Provenance.severity != some p.severity) (.slot w i) s
  | none => s

/-- Whether the policy accepts a verdict (R53). -/
def Policy.accepts (p : Policy) : Provenance → Bool
  | .genuine => true
  | .refilled => p.acceptRefilled
  | .rewound => p.acceptForeign
  | .foreign .duplicate => false
  | .foreign .tagMismatch => p.acceptForeign
  | .foreign .keyUnavailable => p.acceptForeign

/-- Marks as a slot holds a reported value (R52). -/
def heldMarks (reported : Nat) : Nat := min reported maxHeldMarks

/-- Whether a slot other than `i`, in one of the given states, holds an identity with the serial (R50). -/
def anotherHolds (s : State) (i : SlotId) (serial : BitVec 64) (states : List SlotState) : Bool :=
  allSlots.any (fun j => j != i && states.contains (s.slot j).state && (s.slot j).holdsSerial serial)

/-- The states that count as holders at CHALLENGE completion (R50). -/
def holdersAtChallenge : List SlotState := [.verifying, .probing, .ready]

/-- The states that count as holders at acceptance by key revocation and by Set Policy (R50). -/
def holdersAtAcceptance : List SlotState := [.probing, .ready]

/-! ## Rejection -/

/-- The slot record as entry to REJECTED leaves it (R2, R44). -/
def SlotRecord.rejectedFor (r : SlotRecord) (reason : RejectReason) : SlotRecord :=
  { r with
    state := .rejected, rejectReason := some reason, phase := none, tracking := .untracked,
    provenance := if reason = .notAccepted ∨ reason = .duplicate then r.provenance else none,
    identity := if reason = .badRecord then none else r.identity }

/-- Enter REJECTED (R44). -/
def reject (i : SlotId) (reason : RejectReason) (s : State) : State :=
  let s := if reason = .misplaced ∧ (s.slot i).provenance.isSome then historyWrite i s else s
  let s := s.setSlot i ((s.slot i).rejectedFor reason)
  let s := stopMeasuring i (dropBusWork i s)
  reevaluateLineOf i none (raise (.slot .rejected i) s)

/-! ## The probe against the level -/

/-- Set early dry and evaluate the phase, which becomes EMPTY (R144), but for the line. -/
def setEarlyDry (i : SlotId) (s : State) : State :=
  evaluatePhase i (s.setSlot i { s.slot i with earlyDry := true })

/-- A settlement to DRY for a TRACKED READY slot (R144), but for the re-evaluation of its line. -/
def probeDry (i : SlotId) (s : State) : State :=
  match (s.slot i).phase with
  | some .normal =>
    let s := raise (.slot .probeDisagree i) s
    if s.policy.probeTrust then setEarlyDry i s else s
  | some .low =>
    let s := raise (.slot .probeDisagree i) s
    if s.policy.probeTrust then setEarlyDry i s else s
  | some .critical => if s.policy.probeTrust then setEarlyDry i s else s
  | _ => s

/-- A probe state that ends an UNTRACKED cartridge (R141, R142). -/
def ProbeState.ends : ProbeState → Bool
  | .dry => true
  | .fault => true
  | _ => false

/-- Make an UNTRACKED slot EMPTY, with LEVEL_EMPTY (R142), but for the re-evaluation of its line. -/
def emptyUntracked (i : SlotId) (s : State) : State :=
  raise (.slot .levelEmpty i) (s.setSlot i { s.slot i with phase := some .empty })

/-! ## Acceptance -/

/-- The seed of a slot entering READY (R54, steps 1 and 2). -/
def seed (i : SlotId) (s : State) : State :=
  let r := s.slot i
  let entry := match r.identity with
    | some id => historyConsumed s id.serial
    | none => 0
  s.setSlot i
    { r with
      committedMarks := heldMarks r.committedMarks, seeded := true,
      consumed := max (max r.consumed (heldMarks r.committedMarks * markVolume)) entry }

/-- The catch-up commit (R54, step 3). -/
def catchUpCommit (i : SlotId) (s : State) : State :=
  if (s.slot i).provenance = some .genuine ∧ markVolume ≤ uncommitted (s.slot i) then addNeed i .commit s else s

/-- READY (R54, step 5). -/
def becomeReady (i : SlotId) (s : State) : State :=
  let r := s.slot i
  readyMeasuring i r.state
    (s.setSlot i
      { r with
        state := .ready, rejectReason := none,
        tracking := if r.provenance = some .genuine then .tracked else .untracked })

/-- The phase on entry to READY (R54, step 6; R141). -/
def readyPhase (i : SlotId) (s : State) : State :=
  if (s.slot i).tracking = .tracked then
    let s := evaluatePhase i (s.setSlot i { s.slot i with phase := some .normal })
    if (s.slot i).phase ≠ some .empty ∧ (s.slot i).probeState = .dry then probeDry i s else s
  else
    let s := s.setSlot i { s.slot i with phase := some .untracked }
    if (s.slot i).probeState.ends then emptyUntracked i s else s

/-- Enter READY (R54). -/
def accept (i : SlotId) (s : State) : State :=
  let s := historyWrite i (catchUpCommit i (seed i s))
  let s := raise (.slot .accepted i) (readyPhase i (becomeReady i s))
  reevaluateLineOf i (some i) s

/-- Put the verdict of a slot in VERIFYING or PROBING to the policy (R53). -/
def judgeVerdict (i : SlotId) (p : Provenance) (s : State) : State :=
  if s.policy.accepts p then accept i s else reject i .notAccepted s

/-! ## Change of provenance of a READY slot -/

/-- The phase of a slot that becomes UNTRACKED (R57, step 3). -/
def untrackPhase (i : SlotId) (s : State) : State :=
  let r := s.slot i
  if r.phase = some .empty then s
  else
    let s := s.setSlot i { r with phase := some .untracked }
    if r.probeState.ends then emptyUntracked i s else s

/-- Remove the COMMIT and MARK_DEPLETED needs, and void their transaction (R57, step 4; R37, R38). -/
def dropUsageNeeds (i : SlotId) (s : State) : State :=
  voidUsageWrite i (removeNeed i .markDepleted (removeNeed i .commit s))

/-- Change the provenance of a READY slot (R57). R142 has a slot that becomes EMPTY at step 3 re-evaluate its line; R57
gives the one re-evaluation after the policy (step 6, or within the rejection of step 5), and it stands for both
(DESIGN CHOICE: assumption log entry 20). -/
def changeProvenance (i : SlotId) (p : Provenance) (s : State) : State :=
  let s := dropUsageNeeds i (untrackPhase i (setProvenance i p s))
  let s := if s.policy.accepts p then s else reject i .notAccepted s
  reevaluateLineOf i none s

/-- New evidence about a READY slot: its provenance takes the more severe of its own and the evidence (R51, R56). -/
def weighEvidence (i : SlotId) (evidence : Provenance) (s : State) : State :=
  match (s.slot i).provenance with
  | some p => if p.severity < evidence.severity then changeProvenance i evidence s else s
  | none => changeProvenance i evidence s

/-! ## FAULT, insertion, removal, retry -/

/-- Enter FAULT after a third counted failure (R35, R66). -/
def enterFault (i : SlotId) (s : State) : State :=
  let s := s.setSlot i { s.slot i with state := .fault, phase := none }
  let s := raise (.slot .busFault i) (stopMeasuring i (dropBusWork i s))
  reevaluateLineOf i none (historyWrite i s)

/-- The slot record with its cartridge fields at their initial values (R3) and a state. -/
def SlotRecord.cleared (r : SlotRecord) (state : SlotState) : SlotRecord :=
  { SlotRecord.vacantAt r.line r.role with state := state }

/-- What an insertion does to its slot (R42). -/
def insertCartridge (i : SlotId) (s : State) : State :=
  let s := addNeed i .identify (s.setSlot i ((s.slot i).cleared .identifying))
  reevaluateLineOf i none (raise (.slot .inserted i) (startMeasuring i s))

/-- What a removal does to its slot (R43). -/
def removeCartridge (i : SlotId) (s : State) : State :=
  let s := clearMeasuring i (dropBusWork i (historyWrite i s))
  let s := s.setSlot i ((s.slot i).cleared .vacant)
  raise (.slot .removed i) (reevaluateLineOf i none s)

/-- What Retry Slot does to a slot in REJECTED or FAULT (R63). -/
def retryIdentification (i : SlotId) (s : State) : State :=
  let s := historyWrite i s
  let s := addNeed i .identify (s.setSlot i ((s.slot i).cleared .identifying))
  reevaluateLineOf i none (startMeasuring i s)

/-! ## The colour recheck -/

/-- Recheck the colour of one slot against its line's new colour code (R12). -/
def recheckColour (colour : BitVec 4) (i : SlotId) (s : State) : State :=
  let r := s.slot i
  match r.identity with
  | some id =>
    if (r.state = .verifying ∨ r.state = .probing ∨ r.state = .ready) ∧ id.colour ≠ colour then
      reject i .misplaced s
    else s
  | none => s

end Sys2Proof.Machine
end

