-- ==== Sys2Proof/Machine/Port.lean ====
section
/-! DEFINITION. The Formatter Port's transfers (R171 to R173): taking a request, holding its response, clocking it
out. -/

namespace Sys2Proof.Machine

/-- The work of a taken request at the blocks it reaches, with its reply. No reply yet holds the port in WORKING
(R173, Load Key). -/
abbrev Service := State → State × Option Reply

/-- Answer with a status and an empty payload (R174). -/
def answer (status : Status) (s : State) : State × Option Reply := (s, some { status := status, payload := [] })

/-- Answer OK, or CLAMPED where a value was clamped (R173, step 4). -/
def answerClamped (clamped : Bool) (s : State) : State × Option Reply :=
  answer (if clamped then .clamped else .ok) s

/-- `count` zero bytes on MISO. -/
def zeros (count : Nat) : List Byte := List.replicate count 0x00

/-- The port once it has received a frame of `bytes` bytes: WORKING, an unread response discarded (R172, R173). -/
def FormatterPort.takenFrame (p : FormatterPort) (bytes : Nat) : FormatterPort :=
  { p with state := .working, receiving := [], response := [], readPosition := 0, miso := zeros bytes }

/-- The port with a response ready (R173). -/
def FormatterPort.respond (p : FormatterPort) (r : Reply) : FormatterPort :=
  { p with state := .responding, response := responseFrame r, readPosition := 0 }

/-- The response becomes ready. -/
def respond (r : Reply) (s : State) : State := s.setPort (s.port.respond r)

/-- The port once the last byte of its response has been sent (R171). -/
def FormatterPort.drained (p : FormatterPort) : FormatterPort :=
  { p with state := .idle, response := [], readPosition := 0 }

/-- One byte clocked out in a read transfer: the byte on MISO and the port after it (Table 10-1). -/
def FormatterPort.clockByte (p : FormatterPort) : Byte × FormatterPort :=
  match p.state with
  | .idle => (0xFF, p)
  | .receiving => (0x00, p)
  | .working => (0x00, p)
  | .responding =>
    match p.response[p.readPosition]? with
    | none => (0xFF, p.drained)
    | some b =>
      if p.readPosition + 1 = p.response.length then (b, p.drained)
      else (b, { p with readPosition := p.readPosition + 1 })

/-- The bytes clocked out in a row, and the port after them. -/
def FormatterPort.clockOut : Nat → FormatterPort → List Byte × FormatterPort
  | 0, p => ([], p)
  | n + 1, p =>
    let (b, p) := p.clockByte
    let (bs, p) := FormatterPort.clockOut n p
    (b :: bs, p)

/-- A read transfer of `count` bytes (R171): MISO carries them. -/
def readOut (count : Nat) (s : State) : State :=
  let (bytes, p) := s.port.clockOut count
  s.setPort { p with miso := bytes }

/-- The bytes of a transfer that follow a complete frame or a frame error: MOSI is ignored and MISO follows
Table 10-1 (R172). -/
def readOn (count : Nat) (s : State) : State :=
  let before := s.port.miso
  let s := readOut count s
  s.setPort { s.port with miso := before ++ s.port.miso }

/-- A frame error after `used` bytes (R172): the response is FRAME_ERROR and no other block is reached. -/
def takeFrameError (used : Nat) (s : State) : State :=
  respond { status := .frameError, payload := [] } (s.setPort (s.port.takenFrame used))

/-- A request frame with a payload of `length` bytes and a correct CRC-16 (R172, R173): taken unless the part is in
reset (R187), the port is WORKING, when its bytes are discarded and MISO carries 0x00, or the length lies above 64,
which is a frame error at the second length byte. -/
def serve (length : Nat) (work : Service) (s : State) : State :=
  if s.inReset then s
  else if s.port.state = .working then s.setPort { s.port with miso := zeros (6 + length) }
  else if 64 < length then readOn (3 + length) (takeFrameError 3 s)
  else
    match work (s.setPort (s.port.takenFrame (6 + length))) with
    | (s', some r) => respond r s'
    | (s', none) => s'

end Sys2Proof.Machine
end

