-- ==== Sys2Proof/Machine/Setup.lean ====
section
/-! DEFINITION. The requests that set the part up: Configure Line in both forms (R10 to R13), Map Channels (R15),
Enter and Leave Supply Hold (R16, R17), Load Profile (R119, R120), Set Temperature Factors (R121), Set Policy (R19,
R62) and Set Thresholds (R137). -/

namespace Sys2Proof.Machine

/-! ## Configure Line -/

/-- Whether a slot is slot A or slot B of a configured line other than `l` (R10, step 3). -/
def takenByAnother (s : State) (l : LineId) (i : SlotId) : Bool :=
  allLines.any (fun m => m != l && (s.line m).configured && ((s.line m).slotA == i || (s.line m).slotB == some i))

/-- Check 3 of R10: slot B equal to slot A, or a slot of another configured line. -/
def slotsClash (s : State) (l : LineId) (a : SlotId) (b : Option SlotId) : Bool :=
  b == some a || takenByAnother s l a || (match b with | some b => takenByAnother s l b | none => false)

/-- Release every slot that names the line but is neither of the two kept (R7, R11, R13). -/
def releaseSlots (l : LineId) (keep : SlotId → Bool) (s : State) : State :=
  inTurn (fun i s => if (s.slot i).line = some l ∧ keep i = false then place i none .none s else s) allSlots s

/-- The line record Configure Line writes (R11). -/
def LineRecord.configure (r : LineRecord) (colour : BitVec 4) (a : SlotId) (b : Option SlotId) (p : ProfileId)
    (reserve : Nat) : LineRecord :=
  let kept := if r.configured then r else { r with dropsS := 0, dropsM := 0, dropsL := 0, debited := 0, orphan := 0,
                                                   closedFire := 0 }
  { kept with configured := true, colour := colour, slotA := a, slotB := b, active := .a, defaultProfile := p,
              reserve := reserve, reserveRemaining := reserve, residue := 0 }

/-- Place the two slots of a line just configured (R7, R11). -/
def placeSlots (l : LineId) (a : SlotId) (b : Option SlotId) (s : State) : State :=
  let s := releaseSlots l (fun i => i == a || b == some i) s
  let s := place a (some l) .active s
  match b with
  | some b => place b (some l) .standby s
  | none => s

/-- What an accepted Configure Line does (R11); the recheck takes slot A and then slot B (DESIGN CHOICE: assumption
log entry 14). -/
def configureLine (l : LineId) (colour : BitVec 4) (a : SlotId) (b : Option SlotId) (p : ProfileId) (reserve : Nat)
    (s : State) : State :=
  let s := s.setLine l ((s.line l).configure colour a b p reserve)
  let s := recheckColour colour a (placeSlots l a b s)
  let s := match b with
    | some b => recheckColour colour b s
    | none => s
  markLine l (reevaluate l none s)

/-- Configure Line, configure form (R10, R11). -/
def serviceConfigureLine (line colour slotA slotB profile : Byte) (reserve : BitVec 32) : Service := fun s =>
  if s.supplyHold = false then answer .denied s
  else match lineArg line, colourArg colour, slotArg slotA, slotBArg slotB, profileArg profile with
    | some l, some c, some a, some b, some p =>
      if slotsClash s l a b then answer .badArg s
      else
        answerClamped (clampReserve reserve.toNat != reserve.toNat)
          (configureLine l c a b p (clampReserve reserve.toNat) s)
    | _, _, _, _, _ => answer .badArg s

/-- Set to none, and mark, every map entry of a link that names the line (R13). -/
def unmapLine (l : LineId) (k : LinkId) (s : State) : State :=
  inTurn
    (fun c s => if s.mapEntry k c = some l then markChannel k c (s.setMap k ((s.map k).set c.val none)) else s)
    allChannels s

/-- What an accepted unconfigure form does to a configured line (R13). -/
def unconfigureLine (l : LineId) (s : State) : State :=
  let s := s.setLine l { s.line l with configured := false, grant := .closed, reserveRemaining := 0, residue := 0 }
  inTurn (unmapLine l) allLinks (releaseSlots l (fun _ => false) s)

/-- Configure Line, unconfigure form (R10, R13). -/
def serviceUnconfigureLine (line : Byte) : Service := fun s =>
  if s.supplyHold = false then answer .denied s
  else match lineArg line with
    | some l => answer .ok (if (s.line l).configured then unconfigureLine l s else s)
    | none => answer .badArg s

/-! ## Map Channels -/

/-- The entries of a Map Channels, or none where one names a channel or a line outside its range. -/
def mapEntries : List (Byte × Byte) → Option (List (ChannelId × Option LineId))
  | [] => some []
  | (c, t) :: rest =>
    match channelArg c, targetArg t, mapEntries rest with
    | some c, some t, some rest => some ((c, t) :: rest)
    | _, _, _ => none

/-- Whether a target names a configured line or is none. -/
def targetStands (s : State) : Option LineId → Bool
  | some l => (s.line l).configured
  | none => true

/-- The checks of R15 that lead to BAD_ARG, on a list whose entries lie in their ranges. -/
def entriesRefused (s : State) (entries : List (ChannelId × Option LineId)) : Bool :=
  entries.isEmpty || decide (12 < entries.length) || !decide (entries.map Prod.fst).Nodup
    || entries.any (fun e => !targetStands s e.2)

/-- Write one entry of a link's map, marking its channel if the entry changes (R15). -/
def writeEntry (k : LinkId) (e : ChannelId × Option LineId) (s : State) : State :=
  if s.mapEntry k e.1 = e.2 then s else markChannel k e.1 (s.setMap k ((s.map k).set e.1.val e.2))

/-- Map Channels (R15). -/
def serviceMapChannels (link : Byte) (entries : List (Byte × Byte)) : Service := fun s =>
  if s.supplyHold = false then answer .denied s
  else match linkArg link, mapEntries entries with
    | some k, some es => if entriesRefused s es then answer .badArg s else answer .ok (inTurn (writeEntry k) es s)
    | _, _ => answer .badArg s

/-! ## Supply Hold -/

/-- Add COMMIT to a READY GENUINE slot whose unclaimed volume is at least one mark (R159, R161). -/
def commitIfMark (i : SlotId) (s : State) : State :=
  if (s.slot i).readyGenuine ∧ markVolume ≤ unclaimed s i then addNeed i .commit s else s

/-- Stop the commit timer and the re-authentication timer (R16). -/
def stopTimers (s : State) : State :=
  let s := s.setBus { s.bus with commitTimer := none }
  s.setAuth { s.auth with reauthTimer := none }

/-- The re-authentication timer from a full period; 0 leaves it stopped (R17, R55). -/
def reauthStart (period : Nat) : Option RunningTimer :=
  if period = 0 then none else some (RunningTimer.start (period * 1000))

/-- Start both timers from a full period (R17). -/
def startTimers (s : State) : State :=
  let s := s.setBus { s.bus with commitTimer := some (RunningTimer.start (s.policy.commitPeriod * 1000)) }
  s.setAuth { s.auth with reauthTimer := reauthStart s.policy.reauthPeriod }

/-- Enter Supply Hold (R16, R161). -/
def enterHold (s : State) : State :=
  inTurn commitIfMark allSlots (stopTimers (reevaluateAll (s.setSupplyHold true)))

/-- Whether a map entry names a configured line. -/
def namesConfigured (s : State) : Option LineId → Bool
  | some l => (s.line l).configured
  | none => false

/-- Leave Supply Hold (R17). -/
def leaveHold (s : State) : State :=
  let s := reevaluateAll (startTimers (s.setSupplyHold false))
  inTurn (markWhere (namesConfigured s)) allLinks s

/-- Enter Supply Hold (R16). -/
def serviceEnterSupplyHold : Service := fun s => answer .ok (if s.supplyHold then s else enterHold s)

/-- Leave Supply Hold (R17). -/
def serviceLeaveSupplyHold : Service := fun s => answer .ok (if s.supplyHold then leaveHold s else s)

/-! ## Profiles, factors, thresholds -/

/-- The entry Load Profile writes (R119). -/
def profileEntry (vs vm vl : BitVec 16) (floor prime : BitVec 32) (sense : ProbeSense) (threshold : BitVec 16) :
    Profile :=
  { vs := vs.toNat, vm := vm.toNat, vl := vl.toNat, emptyFloor := clampFloor floor.toNat,
    prime := clampPrime prime.toNat, probeSense := sense, probeThreshold := clampProbeThreshold threshold.toNat }

/-- Load Profile (R119, R120). -/
def serviceLoadProfile (profile : Byte) (vs vm vl : BitVec 16) (floor prime : BitVec 32) (sense : Byte)
    (threshold : BitVec 16) : Service := fun s =>
  match profileArg profile, senseArg sense with
  | some p, some sense =>
    if vs = 0 ∧ vm = 0 ∧ vl = 0 then answer .badArg s
    else
      answerClamped
        (clampFloor floor.toNat != floor.toNat || clampPrime prime.toNat != prime.toNat
          || clampProbeThreshold threshold.toNat != threshold.toNat)
        (evaluateAll (s.setProfile p (some (profileEntry vs vm vl floor prime sense threshold))))
  | _, _ => answer .badArg s

/-- Set Temperature Factors (R121). -/
def serviceSetTemperatureFactors (k : Vector (BitVec 16) 8) : Service := fun s =>
  answerClamped (k.toList.any (fun x => clampFactor x.toNat != x.toNat))
    (s.setFactors (k.map (fun x => clampFactor x.toNat)))

/-- Set Thresholds (R137, R67). -/
def serviceSetThresholds (low critical probePeriod : BitVec 16) : Service := fun s =>
  let l := clampLow low.toNat
  let c := clampCritical l critical.toNat
  let p := clampProbePeriod probePeriod.toNat
  answerClamped (l != low.toNat || c != critical.toNat || p != probePeriod.toNat)
    (evaluateAll ((s.setThresholds { low := l, critical := c }).setProbePeriod p))

/-! ## Set Policy -/

/-- The policy record a Set Policy writes (R19). -/
def policyWritten (acceptRefilled acceptForeign probeTrust : Byte) (reauthPeriod : BitVec 32) (quantum : Byte)
    (commitPeriod : BitVec 16) : Policy :=
  { acceptRefilled := yesArg acceptRefilled, acceptForeign := yesArg acceptForeign, probeTrust := yesArg probeTrust,
    reauthPeriod := clampReauthPeriod reauthPeriod.toNat, commitQuantum := clampQuantum quantum.toNat,
    commitPeriod := clampCommitPeriod commitPeriod.toNat }

/-- The re-authentication timer as a Set Policy with another period leaves it (R55). -/
def reauthRestart (old : Option RunningTimer) (period : Nat) : Option RunningTimer :=
  if period = 0 then none else some (restartTimer old (period * 1000))

/-- How the two timers take a new policy: outside Supply Hold, a timer whose period differs starts again from the
full new period, and an expiry it had at hand does not happen (R55, R159). -/
def retimePolicy (old new : Policy) (s : State) : State :=
  if s.supplyHold then s
  else
    let s := if old.commitPeriod = new.commitPeriod then s
      else s.setBus { s.bus with commitTimer := some (restartTimer s.bus.commitTimer (new.commitPeriod * 1000)) }
    if old.reauthPeriod = new.reauthPeriod then s
    else s.setAuth { s.auth with reauthTimer := reauthRestart s.auth.reauthTimer new.reauthPeriod }

/-- Whether the key slot a slot's identity names is LOADED. -/
def KeyState.isLoaded : KeyState → Bool
  | .loaded _ => true
  | _ => false

/-- Step 1 of R62 for a slot rejected NOT_ACCEPTED. -/
def reapplyKey (i : SlotId) (id : Identity) (s : State) : State :=
  if (s.keySlot id.keyIndex).state.isLoaded = false ∧ ((s.slot i).provenance.any Provenance.isForeign) = false then
    setProvenance i (.foreign .keyUnavailable) s
  else s

/-- Whether the slot's line has a colour code other than the slot's (R45, R62). -/
def colourDiffers (s : State) (i : SlotId) (colour : BitVec 4) : Bool :=
  match (s.slot i).line with
  | some l => (s.line l).colour != colour
  | none => false

/-- Steps 2 and 3 of R62 for a slot rejected NOT_ACCEPTED. -/
def rejudgeRejected (i : SlotId) (id : Identity) (s : State) : State :=
  if anotherHolds s i id.serial holdersAtAcceptance then s
  else if colourDiffers s i id.colour then reject i .misplaced s
  else if (s.slot i).provenance.any s.policy.accepts then accept i s
  else s

/-- Put one slot to the new policy (R62). -/
def reapplyPolicy (i : SlotId) (s : State) : State :=
  let r := s.slot i
  if r.state = .ready then
    match r.provenance with
    | some p => if p ≠ .genuine ∧ s.policy.accepts p = false then reject i .notAccepted s else s
    | none => s
  else if r.state = .rejected ∧ r.rejectReason = some .notAccepted then
    match r.identity with
    | some id => rejudgeRejected i id (reapplyKey i id s)
    | none => s
  else s

/-- Whether a Set Policy clamps a value (R19). -/
def policyClamped (reauthPeriod : BitVec 32) (quantum : Byte) (commitPeriod : BitVec 16) : Bool :=
  clampReauthPeriod reauthPeriod.toNat != reauthPeriod.toNat || clampQuantum quantum.toNat != quantum.toNat
    || clampCommitPeriod commitPeriod.toNat != commitPeriod.toNat

/-- Set Policy (R19, R55, R62, R159). -/
def serviceSetPolicy (acceptRefilled acceptForeign probeTrust : Byte) (reauthPeriod : BitVec 32) (quantum : Byte)
    (commitPeriod : BitVec 16) : Service := fun s =>
  let p := policyWritten acceptRefilled acceptForeign probeTrust reauthPeriod quantum commitPeriod
  answerClamped (policyClamped reauthPeriod quantum commitPeriod)
    (inTurn reapplyPolicy allSlots (retimePolicy s.policy p (s.setPolicy p)))

/-! ## Meanings -/

/-- CONFIGURE_LINE (R10, R11). -/
def execConfigureLine (line colour slotA slotB profile : Byte) (reserve : BitVec 32) (s : State) :
    Host.Outcome State Fault Refusal :=
  .next (serve 9 (serviceConfigureLine line colour slotA slotB profile reserve) s)

/-- UNCONFIGURE_LINE (R10, R13). -/
def execUnconfigureLine (line : Byte) (s : State) : Host.Outcome State Fault Refusal :=
  .next (serve 1 (serviceUnconfigureLine line) s)

/-- MAP_CHANNELS (R15). -/
def execMapChannels (link : Byte) (entries : List (Byte × Byte)) (s : State) : Host.Outcome State Fault Refusal :=
  .next (serve (1 + 2 * entries.length) (serviceMapChannels link entries) s)

/-- LOAD_PROFILE (R119, R120). -/
def execLoadProfile (profile : Byte) (vs vm vl : BitVec 16) (floor prime : BitVec 32) (sense : Byte)
    (threshold : BitVec 16) (s : State) : Host.Outcome State Fault Refusal :=
  .next (serve 18 (serviceLoadProfile profile vs vm vl floor prime sense threshold) s)

/-- SET_TEMPERATURE_FACTORS (R121). -/
def execSetTemperatureFactors (k : Vector (BitVec 16) 8) (s : State) : Host.Outcome State Fault Refusal :=
  .next (serve 16 (serviceSetTemperatureFactors k) s)

/-- SET_POLICY (R19, R62). -/
def execSetPolicy (acceptRefilled acceptForeign probeTrust : Byte) (reauthPeriod : BitVec 32) (quantum : Byte)
    (commitPeriod : BitVec 16) (s : State) : Host.Outcome State Fault Refusal :=
  .next (serve 10 (serviceSetPolicy acceptRefilled acceptForeign probeTrust reauthPeriod quantum commitPeriod) s)

/-- SET_THRESHOLDS (R137). -/
def execSetThresholds (low critical probePeriod : BitVec 16) (s : State) : Host.Outcome State Fault Refusal :=
  .next (serve 6 (serviceSetThresholds low critical probePeriod) s)

/-- ENTER_SUPPLY_HOLD (R16). -/
def execEnterSupplyHold (s : State) : Host.Outcome State Fault Refusal := .next (serve 0 serviceEnterSupplyHold s)

/-- LEAVE_SUPPLY_HOLD (R17). -/
def execLeaveSupplyHold (s : State) : Host.Outcome State Fault Refusal := .next (serve 0 serviceLeaveSupplyHold s)

end Sys2Proof.Machine
end

