-- ==== Sys2Proof/Machine/Auth.lean ====
section
/-! DEFINITION. The Authentication Unit and the slot requests: the tag check (R48), the verdict at verification
(R49), the judgement of a READY slot (R56, R143), Load Key and its programming (R59), Revoke Key (R60, R61), Retry
Slot (R63), Commit Now (R160), and the two periodic timers (R55, R159). -/

namespace Sys2Proof.Machine

/-! ## The tag check (R48) -/

/-- The evidence the Authentication Unit hands on (R48). -/
inductive TagEvidence where
  | keyUnavailable | tagMatch | tagMismatch
  deriving DecidableEq, Repr

/-- The evidence of a CHALLENGE response (R27, R48). -/
def tagEvidence (k : KeyState) (id : Identity) (challenge : BitVec 64) (marks : BitVec 16) (depleted : Bool)
    (tag : BitVec 64) : TagEvidence :=
  match k with
  | .loaded key =>
    if Config.tagFunction key (identityBits id) challenge marks depleted = tag then .tagMatch else .tagMismatch
  | _ => .keyUnavailable

/-- The FOREIGN cause of an evidence, where it has one (R49, R56). -/
def TagEvidence.foreignCause : TagEvidence → Option ForeignCause
  | .keyUnavailable => some .keyUnavailable
  | .tagMismatch => some .tagMismatch
  | .tagMatch => none

/-! ## Verification (R49) -/

/-- What verification makes of a cartridge (R49). -/
inductive VerificationResult where
  | probe
  | verdict (p : Provenance)
  deriving DecidableEq, Repr

/-- Weigh the evidence of R49: duplicate, tag, history, depleted mark. -/
def weighVerification (duplicate : Bool) (ev : TagEvidence) (rewound depleted : Bool) : VerificationResult :=
  if duplicate then .verdict (.foreign .duplicate)
  else match ev.foreignCause with
    | some cause => .verdict (.foreign cause)
    | none => if rewound then .verdict .rewound else if depleted then .probe else .verdict .genuine

/-- Whether the History Table shows the reported marks wound back (R49, step 4). -/
def historyRewound (s : State) (serial : BitVec 64) (marks : Nat) : Bool :=
  match historyFind serial s.history with
  | some e => decide (marks < e.committedMarks)
  | none => false

/-- Go to PROBING (R49, R68). -/
def enterProbing (i : SlotId) (s : State) : State :=
  let s := s.setSlot i { s.slot i with state := .probing, phase := some .untracked }
  reevaluateLineOf i none (enterProbingRate i s)

/-- A CHALLENGE result reaches a slot in VERIFYING (R49). -/
def judgeVerifying (i : SlotId) (id : Identity) (ev : TagEvidence) (marks : Nat) (depleted : Bool) (s : State) :
    State :=
  let s := s.setSlot i { s.slot i with committedMarks := heldMarks marks, depleted := depleted }
  match weighVerification (anotherHolds s i id.serial holdersAtChallenge) ev (historyRewound s id.serial marks)
      depleted with
  | .probe => enterProbing i s
  | .verdict (.foreign .duplicate) => reject i .duplicate (setProvenance i (.foreign .duplicate) s)
  | .verdict p => judgeVerdict i p (setProvenance i p s)

/-! ## Re-authentication (R56, R143) -/

/-- Adopt a higher reported counter (R56). -/
def adoptMarks (i : SlotId) (marks : Nat) (s : State) : State :=
  let r := s.slot i
  if r.committedMarks < marks then
    evaluateSlot i
      (s.setSlot i
        { r with committedMarks := heldMarks marks, consumed := max r.consumed (heldMarks marks * markVolume) })
  else s

/-- Adopt a depleted mark (R56, R143). -/
def adoptDepleted (i : SlotId) (depleted : Bool) (s : State) : State :=
  let r := s.slot i
  if depleted && !r.depleted then
    let s := s.setSlot i { r with depleted := true }
    if r.tracking = .tracked then evaluateSlot i s
    else if r.phase = some .untracked then reevaluateLineOf i none (emptyUntracked i s)
    else s
  else s

/-- A CHALLENGE result reaches a slot in READY (R56). -/
def judgeReady (i : SlotId) (ev : TagEvidence) (marks : Nat) (depleted : Bool) (s : State) : State :=
  match ev.foreignCause with
  | some cause => weighEvidence i (.foreign cause) s
  | none =>
    let rewound := decide (marks < (s.slot i).committedMarks)
    let s := adoptDepleted i depleted (adoptMarks i marks s)
    if rewound then weighEvidence i .rewound s else s

/-! ## Keys -/

/-- Load Key (R59): a BLANK key slot begins its programming, its interruption mark set, and the port stays WORKING. -/
def serviceLoadKey (keySlot : Byte) (key : BitVec 128) : Service := fun s =>
  match keySlotArg keySlot with
  | none => answer .badArg s
  | some k =>
    match (s.keySlot k).state with
    | .blank =>
      let s := s.setKeySlot k { state := .blank, interrupted := true }
      (s.setAuth { s.auth with programming := some { keySlot := k, key := key, timer := programmingTime } }, none)
    | _ => answer .denied s

/-- The end of the programming (R59). -/
def finishProgramming (s : State) : State :=
  match s.auth.programming with
  | some p =>
    let s := s.setKeySlot p.keySlot { state := .loaded p.key, interrupted := false }
    respond { status := .ok, payload := [] } (s.setAuth { s.auth with programming := none })
  | none => s

/-- Convert a VERIFYING or PROBING slot whose key is revoked (R61). -/
def revokeUnjudged (i : SlotId) (id : Identity) (s : State) : State :=
  let s := setProvenance i (.foreign .keyUnavailable) s
  if anotherHolds s i id.serial holdersAtAcceptance then
    reject i .duplicate (setProvenance i (.foreign .duplicate) s)
  else judgeVerdict i (.foreign .keyUnavailable) s

/-- Convert a READY slot whose key is revoked (R61). -/
def revokeReady (i : SlotId) (s : State) : State :=
  match (s.slot i).provenance with
  | some (.foreign cause) => if s.policy.accepts (.foreign cause) then s else reject i .notAccepted s
  | _ => changeProvenance i (.foreign .keyUnavailable) s

/-- Convert a slot that names the revoked key slot (R61); one in another state keeps what it holds (DEDUCED: assumption
log entry 17). -/
def revokeSlot (k : KeySlotId) (i : SlotId) (s : State) : State :=
  match (s.slot i).identity with
  | some id =>
    if id.keyIndex = k then
      match (s.slot i).state with
      | .ready => revokeReady i s
      | .verifying => revokeUnjudged i id s
      | .probing => revokeUnjudged i id s
      | _ => s
    else s
  | none => s

/-- Revoke Key (R60, R61). A key slot that is already REVOKED is taken like any other: R61 converts a slot that names it
and has come to VERIFYING since (DESIGN CHOICE: assumption log entry 19). -/
def serviceRevokeKey (keySlot : Byte) : Service := fun s =>
  match keySlotArg keySlot with
  | none => answer .badArg s
  | some k =>
    answer .ok (inTurn (revokeSlot k) allSlots (s.setKeySlot k { s.keySlot k with state := .revoked }))

/-! ## Retry Slot and Commit Now -/

/-- Retry Slot (R63). -/
def serviceRetrySlot (slot : Byte) : Service := fun s =>
  match slotArg slot with
  | none => answer .badArg s
  | some i =>
    if (s.slot i).state = .rejected ∨ (s.slot i).state = .fault then answer .ok (retryIdentification i s)
    else answer .denied s

/-- Add COMMIT to a named slot that is READY and GENUINE (R160). -/
def commitNamed (slots : BitVec 16) (i : SlotId) (s : State) : State :=
  if slots.getLsbD i.val ∧ (s.slot i).readyGenuine then addNeed i .commit s else s

/-- Commit Now (R160). -/
def serviceCommitNow (slots : BitVec 16) : Service := fun s => answer .ok (inTurn (commitNamed slots) allSlots s)

/-! ## The periodic timers -/

/-- Add CHALLENGE to a slot that is READY and GENUINE (R55). -/
def challengeGenuine (i : SlotId) (s : State) : State :=
  if (s.slot i).readyGenuine then addNeed i .challenge s else s

/-- Expiry of the re-authentication timer (R55): nothing happens where it is stopped, or where a Set Policy has overtaken
the expiry. -/
def reauthExpiry (s : State) : State :=
  if timerExpires s.auth.reauthTimer then
    let s := inTurn challengeGenuine allSlots s
    s.setAuth { s.auth with reauthTimer := reauthStart s.policy.reauthPeriod }
  else s

/-- Expiry of the commit timer (R159): nothing happens where it is stopped, or where a Set Policy has overtaken the
expiry. -/
def commitExpiry (s : State) : State :=
  if timerExpires s.bus.commitTimer then
    let s := inTurn commitIfMark allSlots s
    s.setBus { s.bus with commitTimer := some (RunningTimer.start (s.policy.commitPeriod * 1000)) }
  else s

/-! ## Meanings -/

/-- LOAD_KEY (R59). -/
def execLoadKey (keySlot : Byte) (key : BitVec 128) (s : State) : Host.Outcome State Fault Refusal :=
  .next (serve 17 (serviceLoadKey keySlot key) s)

/-- KEY_PROGRAMMING_DONE (R59): nothing happens where no key slot is being programmed. -/
def execKeyProgrammingDone (s : State) : Host.Outcome State Fault Refusal := .next (operating finishProgramming s)

/-- REVOKE_KEY (R60, R61). -/
def execRevokeKey (keySlot : Byte) (s : State) : Host.Outcome State Fault Refusal :=
  .next (serve 1 (serviceRevokeKey keySlot) s)

/-- RETRY_SLOT (R63). -/
def execRetrySlot (slot : Byte) (s : State) : Host.Outcome State Fault Refusal :=
  .next (serve 1 (serviceRetrySlot slot) s)

/-- COMMIT_NOW (R160). -/
def execCommitNow (slots : BitVec 16) (s : State) : Host.Outcome State Fault Refusal :=
  .next (serve 2 (serviceCommitNow slots) s)

/-- REAUTHENTICATION_TIMER_EXPIRY (R55). -/
def execReauthenticationTimerExpiry (s : State) : Host.Outcome State Fault Refusal :=
  .next (operating reauthExpiry s)

/-- COMMIT_TIMER_EXPIRY (R159). -/
def execCommitTimerExpiry (s : State) : Host.Outcome State Fault Refusal :=
  .next (operating commitExpiry s)

end Sys2Proof.Machine
end

