-- ==== Sys2Proof/Machine/CartridgeBus.lean ====
section
/-! DEFINITION. The Cartridge Bus Controller: selection (R30, R31), the start of a transaction (R32, R47, R164), its
end by a complete response (R33, R45, R48, R165 to R167), by failure (R34 to R36) or void (R37). -/

namespace Sys2Proof.Machine

/-! ## Selection -/

/-- The classes of a slot with a next need, best first (R30). -/
inductive ServiceClass where
  | a | b | c | d
  deriving DecidableEq, Repr

/-- The class of a need at a phase (R30). -/
def classOfNeed (x : Need) (phase : Option Phase) : ServiceClass :=
  match x with
  | .identify => .b
  | .challenge => .c
  | .commit => if phase = some .empty then .a else .d
  | .markDepleted => if phase = some .empty then .a else .d

/-- The class of a slot; none where its need set is empty (R30). -/
def serviceClass (s : State) (i : SlotId) : Option ServiceClass :=
  (s.needSet i).next.map (fun x => classOfNeed x (s.slot i).phase)

/-- The slots in the order that starts after the last-served slot, counts upward and wraps from 15 to 0 (R31). -/
def serviceOrder (last : SlotId) : List SlotId := allSlots.map (fun k => last + 1 + k)

/-- The slot the controller selects: the best class held by any slot, and the first of that class in order (R31). -/
def selectedSlot (s : State) : Option SlotId :=
  [ServiceClass.a, .b, .c, .d].findSome? (fun best =>
    (serviceOrder s.bus.lastServed).find? (fun i => serviceClass s i == some best))

/-! ## The start of a transaction -/

/-- The count of a commit that starts now (R164). -/
def commitCount (r : SlotRecord) : Nat := min maxCommitCount (uncommitted r / markVolume)

/-- The challenge that is built now: the challenge counter, then fresh entropy (R47). -/
def nextChallenge (a : AuthUnit) : BitVec 64 := a.challengeCounter ++ Config.entropyWord a.entropyDrawn

/-- The Authentication Unit once a challenge has been built (R46, R47). -/
def AuthUnit.challenged (a : AuthUnit) : AuthUnit :=
  { a with challengeCounter := a.challengeCounter + 1, entropyDrawn := a.entropyDrawn + 1 }

/-- Put a transaction in flight and begin to drive its command frame (R20, R21, R32). -/
def beginTransaction (i : SlotId) (x : Need) (payload : Payload) (s : State) : State :=
  s.setBus
    { s.bus with
      inFlight := some { slot := i, need := x, payload := payload, renewed := false, void := false },
      driving := some (commandFrame i x payload), timeout := none, ignoring := false, quiet := none,
      retryFor := none }

/-- Start a transaction for a slot and a need, its owner building the payload (R32). -/
def startTransaction (i : SlotId) (x : Need) (s : State) : State :=
  match x with
  | .challenge => beginTransaction i .challenge (.challenge (nextChallenge s.auth)) (s.setAuth s.auth.challenged)
  | .commit => beginTransaction i .commit (.count (commitCount (s.slot i))) s
  | .identify => beginTransaction i .identify .empty s
  | .markDepleted => beginTransaction i .markDepleted .empty s

/-- Whether a need is dropped at its start: a COMMIT whose count is 0 (R164). -/
def droppedAtStart (s : State) (i : SlotId) (x : Need) : Bool := x == .commit && commitCount (s.slot i) == 0

/-- Make a slot the last-served slot (R31). -/
def serveLast (i : SlotId) (s : State) : State := s.setBus { s.bus with lastServed := i }

/-- Select and start, selecting again at once for each COMMIT dropped (R31, R164). -/
def selectFrom : Nat → State → State
  | 0, s => s
  | n + 1, s =>
    match selectedSlot s with
    | none => s
    | some i =>
      match (s.needSet i).next with
      | none => s
      | some x =>
        if droppedAtStart s i x then selectFrom n (removeNeed i x (serveLast i s))
        else startTransaction i x (serveLast i s)

/-- One selection (R31): at most sixteen COMMIT needs can be dropped before a transaction starts or none is left. -/
def select (s : State) : State := selectFrom 17 s

/-- Whether the bus is free for a command frame: no transaction in flight (R20, R31). -/
def busFree (s : State) : Bool := s.bus.inFlight.isNone

/-- The retry a counted failure calls for, while its need is still in its slot's set (R34). -/
def retryDue (s : State) : Option (SlotId × Need) :=
  match s.bus.retryFor with
  | some (i, x) => if (s.needSet i).has x then some (i, x) else none
  | none => none

/-- Forget a retry. -/
def forgetRetry (s : State) : State := s.setBus { s.bus with retryFor := none }

/-- The moment of a selection: the bus free, and no retry due (R31, R34). The command itself says that the quiet
interval has passed (DESIGN CHOICE: assumption log entries 8 and 12). -/
def selection (s : State) : State :=
  if busFree s && (retryDue s).isNone then select (forgetRetry s) else s

/-- The moment of a retry (R34): a need that has left the set, or a COMMIT dropped at its start (R164), leads to a
selection instead (DEDUCED: assumption log entry 12). -/
def retry (s : State) : State :=
  if busFree s && s.bus.retryFor.isSome then
    match retryDue s with
    | some (i, x) =>
      if droppedAtStart s i x then select (removeNeed i x (forgetRetry s)) else startTransaction i x s
    | none => select (forgetRetry s)
  else s

/-- The end of a command frame (R20, R24). -/
def commandFrameEnd (s : State) : State :=
  match s.bus.inFlight with
  | some t =>
    if s.bus.driving.isSome then
      s.setBus { s.bus with driving := none, timeout := some (commandTimeout t.need) }
    else s
  | none => s

/-! ## The end of a transaction -/

/-- The transaction whose response the part is listening for: its command frame sent, and no wrong echo received
(R20). -/
def awaited (s : State) : Option Transaction :=
  if s.bus.driving.isNone && !s.bus.ignoring then s.bus.inFlight else none

/-- The bus as a transaction's end leaves it: nothing in flight, the quiet interval begun (R20). -/
def BusController.freed (b : BusController) : BusController :=
  { b with inFlight := none, driving := none, timeout := none, ignoring := false, quiet := some quietTime }

/-- The bus as a wrong address echo leaves it: the transaction stays in flight, its timeout running on, and the bytes
that follow are ignored until its end (R20). -/
def BusController.deaf (b : BusController) : BusController := { b with ignoring := true }

/-- The bus as the timeout of a transaction with a wrong address echo leaves it: the transaction has ended (R20), and
where it has become void meanwhile no retry of it starts (R37). -/
def BusController.freedOfEcho (b : BusController) : BusController :=
  { b.freed with retryFor := if b.inFlight.any Transaction.void then none else b.retryFor }

/-- Set a slot's bus failures. -/
def setFailures (i : SlotId) (n : Nat) (s : State) : State := s.setSlot i { s.slot i with busFailures := n }

/-- A transaction succeeds: the served need leaves the set unless renewed, and bus failures is 0 (R33, steps 1 and
2). -/
def succeed (t : Transaction) (s : State) : State :=
  let s := s.setBus s.bus.freed
  setFailures t.slot 0 (if t.renewed then s else removeNeed t.slot t.need s)

/-- The end of a void transaction (R37). -/
def endVoid (t : Transaction) (complete : Bool) (s : State) : State :=
  let s := s.setBus s.bus.freed
  if complete then setFailures t.slot 0 s else s

/-- A failure of a transaction, the bus being as it leaves it (R34 to R37): nothing where the transaction is void or the
presence line is deasserted. A third counted failure at a wrong address echo voids the transaction still in flight
(R38; DEDUCED: assumption log entry 11). -/
def fail (t : Transaction) (s : State) : State :=
  if t.void || !(s.socket t.slot).asserted then s
  else
    let n := min 3 ((s.slot t.slot).busFailures + 1)
    let s := setFailures t.slot n s
    if n < 3 then s.setBus { s.bus with retryFor := some (t.slot, t.need) } else enterFault t.slot s

/-- A complete response: void, or delivered (R33, R37). -/
def complete (t : Transaction) (deliver : State → State) (s : State) : State :=
  if t.void then endVoid t true s else deliver (succeed t s)

/-! ## Results -/

/-- The identity of a record whose key index is in range (R23). -/
def recordIdentity (p : RecordPayload) (k : KeySlotId) : Identity :=
  { serial := p.serial, colour := p.colour, profile := ⟨p.profile.toNat, p.profile.isLt⟩, fill := p.fill.toNat,
    keyIndex := k }

/-- The identity a record gives, none where fill or key index is out of range (R23, R45, check 1). -/
def acceptedIdentity (p : RecordPayload) : Option Identity :=
  match keySlotArg p.keyIndex with
  | some k => if 10000 ≤ p.fill.toNat ∧ p.fill.toNat ≤ 2000000 then some (recordIdentity p k) else none
  | none => none

/-- Give a slot an identity. -/
def setIdentity (i : SlotId) (id : Identity) (s : State) : State := s.setSlot i { s.slot i with identity := some id }

/-- Go to VERIFYING (R45, check 4). -/
def enterVerifying (i : SlotId) (p : RecordPayload) (s : State) : State :=
  let s := s.setSlot i
    { s.slot i with
      state := .verifying, committedMarks := heldMarks p.marks.toNat, depleted := p.depleted != 0 }
  reevaluateLineOf i none (addNeed i .challenge s)

/-- A READ RECORD result is delivered to a slot in IDENTIFYING (R45). -/
def deliverRecord (i : SlotId) (p : RecordPayload) (s : State) : State :=
  if (s.slot i).state = .identifying then
    match acceptedIdentity p with
    | none => reject i .badRecord s
    | some id =>
      let s := setIdentity i id s
      if colourDiffers s i id.colour then reject i .misplaced s
      else if s.profile id.profile = none then reject i .unknownProfile s
      else enterVerifying i p s
  else s

/-- A CHALLENGE result is checked and delivered to a slot in VERIFYING or READY (R48, R49, R56). -/
def deliverChallenge (i : SlotId) (sent : BitVec 64) (marks : BitVec 16) (depleted : Byte) (tag : BitVec 64)
    (s : State) : State :=
  match (s.slot i).identity with
  | none => s
  | some id =>
    let ev := tagEvidence (s.keySlot id.keyIndex).state id sent marks (depleted != 0) tag
    match (s.slot i).state with
    | .verifying => judgeVerifying i id ev marks.toNat (depleted != 0) s
    | .ready => judgeReady i ev marks.toNat (depleted != 0) s
    | _ => s

/-- The slot record as the returned value leaves it (Table 9-2), `e` being the value expected. -/
def SlotRecord.counted (r : SlotRecord) (v e : Nat) : SlotRecord :=
  if v < e then { r with committedMarks := max r.committedMarks (heldMarks v) }
  else if v = e then { r with committedMarks := heldMarks v }
  else { r with committedMarks := heldMarks v, consumed := max r.consumed (heldMarks v * markVolume) }

/-- Add COMMIT again after a commit (R165, step 4). -/
def readdCommit (i : SlotId) (s : State) : State :=
  if (s.slot i).readyGenuine ∧ s.policy.commitQuantum * markVolume ≤ uncommitted (s.slot i) then addNeed i .commit s
  else s

/-- An ADVANCE MARKS of count `n` returns `v` (R165, R166). -/
def deliverMarks (i : SlotId) (n v : Nat) (s : State) : State :=
  let e := (s.slot i).committedMarks + n
  let before := (s.slot i).consumed
  let s := s.setSlot i ((s.slot i).counted v e)
  let s := if v < e then weighEvidence i .rewound s else s
  let s := if before < (s.slot i).consumed then evaluateSlot i s else s
  historyWrite i (readdCommit i s)

/-- A MARK DEPLETED succeeds (R167). -/
def deliverDepleted (i : SlotId) (s : State) : State :=
  historyWrite i (s.setSlot i { s.slot i with depleted := true })

/-! ## Completions -/

/-- A complete READ RECORD response. -/
def completeRecord (p : RecordPayload) (s : State) : State :=
  match awaited s with
  | some t => if t.need = .identify then complete t (deliverRecord t.slot p) s else s
  | none => s

/-- A complete CHALLENGE response. -/
def completeChallenge (marks : BitVec 16) (depleted : Byte) (tag : BitVec 64) (s : State) : State :=
  match awaited s with
  | some t =>
    match t.need, t.payload with
    | .challenge, .challenge sent => complete t (deliverChallenge t.slot sent marks depleted tag) s
    | _, _ => s
  | none => s

/-- A complete ADVANCE MARKS response. -/
def completeMarks (v : BitVec 16) (s : State) : State :=
  match awaited s with
  | some t =>
    match t.need, t.payload with
    | .commit, .count n => complete t (deliverMarks t.slot n v.toNat) s
    | _, _ => s
  | none => s

/-- A complete MARK DEPLETED response. -/
def completeDepleted (s : State) : State :=
  match awaited s with
  | some t => if t.need = .markDepleted then complete t (deliverDepleted t.slot) s else s
  | none => s

/-- A complete response, by its payload bytes (Table 2-4). -/
def completeBytes (x : Need) (payload : List Byte) (s : State) : State :=
  match x with
  | .identify => completeRecord (decodeRecord payload) s
  | .challenge =>
    completeChallenge (BitVec.ofNat 16 (numberOf (payload.take 2)))
      (BitVec.ofNat 8 (numberOf ((payload.drop 2).take 1))) (BitVec.ofNat 64 (numberOf ((payload.drop 3).take 8))) s
  | .commit => completeMarks (BitVec.ofNat 16 (numberOf payload)) s
  | .markDepleted => completeDepleted s

/-- Bytes received in answer to the command (R22, R28): a failure at the byte that shows it; what has not failed yet
waits, and what is complete completes (DESIGN CHOICE: assumption log entry 13). -/
def receiveResponse (bytes : List Byte) (s : State) : State :=
  match awaited s with
  | none => s
  | some t =>
    match readResponse t.slot t.need bytes with
    | .incomplete => s
    | .wrongEcho => fail t (s.setBus s.bus.deaf)
    | .crcError => fail t (s.setBus s.bus.freed)
    | .statusError => fail t (s.setBus s.bus.freed)
    | .complete payload => completeBytes t.need payload s

/-- The end of a transaction's timeout (R20, R24): of one whose failure was taken at a wrong echo, or of one with no
response. -/
def timeoutEnd (s : State) : State :=
  if s.bus.ignoring then s.setBus s.bus.freedOfEcho
  else match awaited s with
    | some t => if s.bus.timeout.isSome then fail t (s.setBus s.bus.freed) else s
    | none => s

/-- The end of a void transaction (R37). One that a wrong echo has already failed ends with its timeout and has no
complete response (R20). -/
def voidEnd (complete : Bool) (s : State) : State :=
  if s.bus.ignoring then
    if s.bus.inFlight.any Transaction.void && !complete then s.setBus s.bus.freedOfEcho else s
  else match awaited s with
    | some t => if t.void then endVoid t complete s else s
    | none => s

/-! ## Meanings -/

/-- SELECTION (R31). -/
def execSelection (s : State) : Host.Outcome State Fault Refusal := .next (operating selection s)

/-- RETRY (R34). -/
def execRetry (s : State) : Host.Outcome State Fault Refusal := .next (operating retry s)

/-- COMMAND_FRAME_END (R24). -/
def execCommandFrameEnd (s : State) : Host.Outcome State Fault Refusal := .next (operating commandFrameEnd s)

/-- READ_RECORD_COMPLETION (R45). -/
def execReadRecordCompletion (payload : RecordPayload) (s : State) : Host.Outcome State Fault Refusal :=
  .next (operating (completeRecord payload) s)

/-- CHALLENGE_COMPLETION (R48). -/
def execChallengeCompletion (marks : BitVec 16) (depleted : Byte) (tag : BitVec 64) (s : State) :
    Host.Outcome State Fault Refusal :=
  .next (operating (completeChallenge marks depleted tag) s)

/-- ADVANCE_MARKS_COMPLETION (R165). -/
def execAdvanceMarksCompletion (value : BitVec 16) (s : State) : Host.Outcome State Fault Refusal :=
  .next (operating (completeMarks value) s)

/-- MARK_DEPLETED_COMPLETION (R167). -/
def execMarkDepletedCompletion (s : State) : Host.Outcome State Fault Refusal :=
  .next (operating completeDepleted s)

/-- TRANSACTION_FAILURE (R34). -/
def execTransactionFailure (bytes : List Byte) (s : State) : Host.Outcome State Fault Refusal :=
  .next (operating (receiveResponse bytes) s)

/-- TRANSACTION_TIMEOUT (R24). -/
def execTransactionTimeout (s : State) : Host.Outcome State Fault Refusal := .next (operating timeoutEnd s)

/-- VOID_TRANSACTION_END (R37). -/
def execVoidTransactionEnd (complete : Bool) (s : State) : Host.Outcome State Fault Refusal :=
  .next (operating (voidEnd complete) s)

end Sys2Proof.Machine
end

