-- ==== Sys2Proof/Machine/Replies.lean ====
section
/-! DEFINITION. The reply records (R174 to R179, R184), encoded field by field in the order in which the rule that
gives the reply lists them. -/

namespace Sys2Proof.Machine

/-! ## Encoding of fields (R174) -/

/-- A number in one byte. -/
def num1 (n : Nat) : List Byte := bytesOf 1 n
/-- A number in two bytes. -/
def num2 (n : Nat) : List Byte := bytesOf 2 n
/-- A number in four bytes. -/
def num4 (n : Nat) : List Byte := bytesOf 4 n
/-- A number in six bytes. -/
def num6 (n : Nat) : List Byte := bytesOf 6 n
/-- A number in eight bytes. -/
def num8 (n : Nat) : List Byte := bytesOf 8 n

/-- A yes/no field: 0 for no and 1 for yes. -/
def yesNo (b : Bool) : List Byte := [if b then 1 else 0]

/-- An optional field: a presence byte, then the value's bytes, 0 when the field is none. `width` is their number. -/
def optional {α : Type} (width : Nat) (encode : α → List Byte) : Option α → List Byte
  | none => 0 :: zeros width
  | some x => 1 :: encode x

/-- The bytes of each item of a list in turn. -/
def eachOf {α : Type} (encode : α → List Byte) : List α → List Byte
  | [] => []
  | x :: xs => encode x ++ eachOf encode xs

/-- A list with a one-byte count. -/
def counted {α : Type} (encode : α → List Byte) (xs : List α) : List Byte := num1 xs.length ++ eachOf encode xs

/-- The number with bit k set for each k at which `held` is true. -/
def bitsOf (held : Nat → Bool) : Nat → Nat
  | 0 => 0
  | n + 1 => bitsOf held n + if held n then 2 ^ n else 0

/-! ## Fields of named values, coded from 0 in the order the manual lists them (DEDUCED: assumption log entry 16) -/

def SlotState.encode : SlotState → List Byte
  | .vacant => [0] | .identifying => [1] | .verifying => [2] | .probing => [3] | .ready => [4] | .rejected => [5]
  | .fault => [6]

def RejectReason.encode : RejectReason → List Byte
  | .badRecord => [0] | .misplaced => [1] | .unknownProfile => [2] | .notAccepted => [3] | .duplicate => [4]

/-- A FOREIGN provenance is followed by a byte giving its cause. -/
def Provenance.encode : Provenance → List Byte
  | .genuine => [0] | .refilled => [1] | .rewound => [2]
  | .foreign .tagMismatch => [3, 0] | .foreign .keyUnavailable => [3, 1] | .foreign .duplicate => [3, 2]

def Tracking.encode : Tracking → List Byte
  | .tracked => [0] | .untracked => [1]

def Phase.encode : Phase → List Byte
  | .normal => [0] | .low => [1] | .critical => [2] | .empty => [3] | .untracked => [4]

def ProbeState.encode : ProbeState → List Byte
  | .unknown => [0] | .wet => [1] | .dry => [2] | .fault => [3]

def Role.encode : Role → List Byte
  | .active => [0] | .standby => [1] | .none => [2]

def SettledPresence.encode : SettledPresence → List Byte
  | .absent => [0] | .present => [1]

def Need.encode : Need → List Byte
  | .identify => [0] | .challenge => [1] | .commit => [2] | .markDepleted => [3]

def ResultKind.encode : ResultKind → List Byte
  | .wet => [0] | .dry => [1] | .noReturn => [2]

def KeyState.encode : KeyState → List Byte
  | .blank => [0] | .loaded _ => [1] | .revoked => [2]

def ActiveSide.encode : ActiveSide → List Byte
  | .a => [0] | .b => [1]

def Grant.encode : Grant → List Byte
  | .opened => [0] | .reserve => [1] | .closed => [2]

def ProbeSense.encode : ProbeSense → List Byte
  | .longIsWet => [0] | .longIsDry => [1]

/-- Link state: DOWN is 0 and UP is 1. -/
def encodeLinkState (up : Bool) : List Byte := [if up then 1 else 0]

/-- The source field: LIVE is 0 and FROZEN is 1 (R175). -/
def encodeSource (frozen : Bool) : List Byte := [if frozen then 1 else 0]

/-! ## Named groups of fields -/

def Identity.encode (id : Identity) : List Byte :=
  num8 id.serial.toNat ++ num1 id.colour.toNat ++ num1 id.profile.val ++ num4 id.fill ++ num1 id.keyIndex.val

def Profile.encode (p : Profile) : List Byte :=
  num2 p.vs ++ num2 p.vm ++ num2 p.vl ++ num4 p.emptyFloor ++ num4 p.prime ++ p.probeSense.encode
    ++ num2 p.probeThreshold

/-- The result and the width of a last result; UNJUDGED is 0, then WET, DRY and NO_RETURN (Table 4-1). -/
def LastResult.encode : LastResult → List Byte
  | .unjudged w => [0] ++ optional 2 num2 w
  | .judged .wet w => [1] ++ optional 2 num2 w
  | .judged .dry w => [2] ++ optional 2 num2 w
  | .judged .noReturn w => [3] ++ optional 2 num2 w

/-- The count n of an ADVANCE MARKS; no other payload has one. -/
def Payload.commitCount : Payload → Option Nat
  | .count n => some n
  | _ => none

/-- The in-flight field of Read Slot: the need, the count of an ADVANCE MARKS, and the renewed and void marks
(R170, R177). -/
def Transaction.encode (t : Transaction) : List Byte :=
  t.need.encode ++ optional 1 num1 t.payload.commitCount ++ yesNo t.renewed ++ yesNo t.void

/-- A need set: IDENTIFY at bit 0, CHALLENGE at bit 1, COMMIT at bit 2, MARK_DEPLETED at bit 3. -/
def NeedSet.encode (n : NeedSet) : List Byte :=
  num1 ((if n.identify then 1 else 0) + (if n.challenge then 2 else 0) + (if n.commit then 4 else 0)
    + (if n.markDepleted then 8 else 0))

def HistoryEntry.encode (e : HistoryEntry) : List Byte :=
  num8 e.serial.toNat ++ num2 e.committedMarks ++ num4 e.consumed ++ yesNo e.depleted ++ num1 e.lastSlot.val
    ++ optional 1 Provenance.encode e.lastVerdict

def Report.encode (r : Report) : List Byte :=
  num1 r.channel.val ++ num4 r.ns ++ num4 r.nm ++ num4 r.nl ++ num1 r.band.val ++ yesNo r.isPartial

def Accumulator.encode (a : Accumulator) : List Byte :=
  num4 a.sSum ++ num4 a.mSum ++ num4 a.lSum ++ num1 a.band.val

def Assembly.encode (a : Assembly) : List Byte :=
  num1 a.channel.val ++ optional 2 num2 a.sCount ++ optional 2 num2 a.mCount ++ num1 a.bandOpening.val

def DropTotals.encode (t : DropTotals) : List Byte := num6 t.s ++ num6 t.m ++ num6 t.l

def Policy.encode (p : Policy) : List Byte :=
  yesNo p.acceptRefilled ++ yesNo p.acceptForeign ++ yesNo p.probeTrust ++ num4 p.reauthPeriod ++ num1 p.commitQuantum
    ++ num2 p.commitPeriod

/-- An event pair: its kind code and then its subject. -/
def Event.encode (e : Event) : List Byte := num1 e.code ++ num1 e.subject

/-! ## What the four snapshot reads answer from (R175, R180) -/

/-- The records of the report snapshot as they stand (R180). -/
def liveSnapshot (s : State) : Snapshot :=
  { slots := s.slots, sockets := s.sockets, probes := s.probes, probePeriod := s.probePeriod, needs := s.needs,
    inFlight := s.bus.inFlight, lines := s.lines, maps := s.maps, links := s.links, history := s.history }

/-- The snapshot while a report freeze is in force, and the live records otherwise (R175). -/
def reportSource (s : State) : Snapshot :=
  match s.freeze with
  | some f => f.snapshot
  | none => liveSnapshot s

/-! ## The reply records -/

/-- The uncommitted volume as Read Slot reports it (R157, R177). -/
def reportedUncommitted (r : SlotRecord) : Nat :=
  if r.committedMarks * markVolume ≤ r.consumed then uncommitted r
  else (Config.uncommittedBelowMarks r.consumed r.committedMarks).toNat

/-- The in-flight record of a slot, where the transaction in flight is to it. -/
def transactionTo (t : Option Transaction) (i : SlotId) : Option Transaction :=
  match t with
  | some t => if t.slot = i then some t else none
  | none => none

/-- The Read Slot record after its source field (R177). -/
def slotReply (p : Snapshot) (i : SlotId) : List Byte :=
  let r := p.slots[i.val]
  let k := p.sockets[i.val]
  let u := p.probes[i.val]
  r.state.encode ++ optional 1 RejectReason.encode r.rejectReason ++ optional 1 Provenance.encode r.provenance
    ++ optional 15 Identity.encode r.identity ++ num2 r.committedMarks ++ num4 r.consumed ++ yesNo r.depleted
    ++ r.tracking.encode ++ optional 1 Phase.encode r.phase ++ yesNo r.earlyDry ++ r.probeState.encode
    ++ yesNo r.primed ++ num1 r.busFailures
    ++ optional 4 num4 (r.identity.map (fun id => remaining id r))
    ++ optional 4 num4 (r.identity.map (fun id => overdraw id r))
    ++ optional 4 num4 (r.identity.map (fun _ => reportedUncommitted r))
    ++ optional 1 (fun l : LineId => num1 l.val) r.line ++ r.role.encode
    ++ yesNo k.asserted ++ k.settled.encode
    ++ (p.needs[i.val]).encode ++ optional 5 Transaction.encode (transactionTo p.inFlight i)
    ++ yesNo u.measuring
    ++ optional 2 num2 (if u.measuring then some (probeInterval p.probePeriod r.state) else none)
    ++ optional 4 LastResult.encode u.lastResult ++ optional 1 ResultKind.encode u.runKind ++ num1 u.runCount

/-- The role of a slot (Table 1-1), as its record has it. -/
def slotRole (p : Snapshot) (i : SlotId) : Role := (p.slots[i.val]).role

/-- The Read Line record after its source field (R178). The role of slot B is an optional field, none where slot B is
none (DESIGN CHOICE: assumption log entry 16). -/
def lineReply (p : Snapshot) (l : LineId) : List Byte :=
  let r := p.lines[l.val]
  yesNo r.configured ++ num1 r.colour.toNat ++ num1 r.slotA.val
    ++ optional 1 (fun b : SlotId => num1 b.val) r.slotB ++ r.active.encode ++ num1 r.defaultProfile.val
    ++ num4 r.reserve ++ num4 r.reserveRemaining ++ num4 r.residue ++ r.grant.encode
    ++ num6 r.dropsS ++ num6 r.dropsM ++ num6 r.dropsL ++ num8 r.debited ++ num4 r.orphan ++ num4 r.closedFire
    ++ num1 r.activeSlot.val ++ (slotRole p r.slotA).encode
    ++ optional 1 (fun b => (slotRole p b).encode) r.slotB

/-- The Read Link record after its source field (R117, R178). -/
def linkReply (p : Snapshot) (k : LinkId) : List Byte :=
  let r := p.links[k.val]
  encodeLinkState r.up ++ yesNo r.linkEn ++ num1 r.band.val ++ yesNo r.hold
    ++ optional 8 Assembly.encode r.assembly
    ++ counted Report.encode r.fifo
    ++ eachOf Accumulator.encode r.accumulators.toList
    ++ num2 (bitsOf (fun c => (r.grantPending.toList)[c]?.getD false) 12)
    ++ optional 1 (fun g : GrantFrame => num1 g.channel.val) r.grantFrame
    ++ r.accepted.encode ++ r.unmapped.encode ++ r.lost.encode ++ num4 r.errorCount
    ++ eachOf (optional 1 (fun l : LineId => num1 l.val)) (p.maps[k.val]).toList

/-- The Read History record after its source field (R179). -/
def historyReply (p : Snapshot) : List Byte := counted HistoryEntry.encode p.history

/-- The Read Events record (R184): the mask, the pending pairs and the level of ATTN. -/
def eventsReply (u : EventUnit) : List Byte :=
  bytesOf 3 u.mask.toNat ++ num2 u.pending.length ++ eachOf Event.encode u.pending ++ yesNo u.attn

/-- The Read Part Identity record (R176). -/
def identityReply (s : State) : List Byte :=
  num2 3160 ++ [Config.partRevision] ++ yesNo s.supplyHold
    ++ yesNo s.freeze.isSome ++ optional 1 num1 (s.freeze.map (fun f => f.timer.left))
    ++ num4 s.auth.challengeCounter.toNat
    ++ eachOf (fun k : KeySlot => k.state.encode) s.auth.keys.toList
    ++ s.policy.encode
    ++ num2 s.thresholds.low ++ num2 s.thresholds.critical ++ num2 s.probePeriod
    ++ optional 4 num4 (s.bus.commitTimer.map RunningTimer.left)
    ++ optional 4 num4 (s.auth.reauthTimer.map RunningTimer.left)
    ++ eachOf num2 s.factors.toList
    ++ eachOf (optional 17 Profile.encode) s.profiles.toList

end Sys2Proof.Machine
end

