-- ==== Sys2Proof/Machine/Reads.lean ====
section
/-! DEFINITION. The read requests and the Event Unit's requests: Read Part Identity, Read Slot, Read Line, Read Link,
Read History (R175 to R179), Read Events, Clear Events and Set Event Mask (R184 to R186), Freeze Report and
Release Report (R180, R181). -/

namespace Sys2Proof.Machine

/-- Answer OK with a reply record. -/
def answerWith (payload : List Byte) (s : State) : State × Option Reply :=
  (s, some { status := .ok, payload := payload })

/-- Read Part Identity (R176). -/
def serviceReadPartIdentity : Service := fun s => answerWith (identityReply s) s

/-- The source field of the four snapshot reads and their record (R175). -/
def answerReport (record : Snapshot → List Byte) : Service := fun s =>
  answerWith (encodeSource s.freeze.isSome ++ record (reportSource s)) s

/-- Read Slot (R175, R177). -/
def serviceReadSlot (slot : Byte) : Service := fun s =>
  match slotArg slot with
  | some i => answerReport (fun p => slotReply p i) s
  | none => answer .badArg s

/-- Read Line (R175, R178). -/
def serviceReadLine (line : Byte) : Service := fun s =>
  match lineArg line with
  | some l => answerReport (fun p => lineReply p l) s
  | none => answer .badArg s

/-- Read Link (R175, R178). -/
def serviceReadLink (link : Byte) : Service := fun s =>
  match linkArg link with
  | some k => answerReport (fun p => linkReply p k) s
  | none => answer .badArg s

/-- Read History (R175, R179). -/
def serviceReadHistory : Service := answerReport historyReply

/-- Read Events (R184): the reported set becomes the pending set. -/
def serviceReadEvents : Service := fun s =>
  answerWith (eventsReply s.events) (s.setEvents { s.events with reported := s.events.pending })

/-- The reported pairs of the named kinds: those that Clear Events removes (R185). -/
def clearsPair (u : EventUnit) (kinds : BitVec 24) (e : Event) : Bool := u.reported.contains e && kindsName kinds e

/-- The Event Unit after Clear Events (R185), ATTN driven as R186 gives. -/
def EventUnit.cleared (u : EventUnit) (kinds : BitVec 24) : EventUnit :=
  { u with
    pending := u.pending.filter (fun e => !clearsPair u kinds e),
    reported := u.reported.filter (fun e => !clearsPair u kinds e),
    attn := attnLevel u.mask (u.pending.filter (fun e => !clearsPair u kinds e)) }

/-- Clear Events (R185). -/
def serviceClearEvents (kinds : BitVec 24) : Service := fun s => answer .ok (s.setEvents (s.events.cleared kinds))

/-- The Event Unit with a new mask, ATTN driven from it (R186). -/
def EventUnit.withMask (u : EventUnit) (mask : BitVec 24) : EventUnit :=
  { u with mask := mask, attn := attnLevel mask u.pending }

/-- Set Event Mask (R186). -/
def serviceSetEventMask (kinds : BitVec 24) : Service := fun s => answer .ok (s.setEvents (s.events.withMask kinds))

/-- Freeze Report (R180): under a freeze, the freeze timer starts again and the expiry it had at hand does not happen
(R181). -/
def serviceFreezeReport : Service := fun s =>
  answer .ok
    (s.setFreeze
      (some { timer := restartTimer (s.freeze.map Freeze.timer) freezeTime, snapshot := liveSnapshot s }))

/-- Release Report (R181). -/
def serviceReleaseReport : Service := fun s => answer .ok (s.setFreeze none)

/-- Expiry of the freeze timer (R181): nothing happens where none runs, or where a Freeze Report has overtaken the
expiry. -/
def expireFreeze (s : State) : State :=
  if timerExpires (s.freeze.map Freeze.timer) then raise .freezeExpired (s.setFreeze none) else s

/-! ## Meanings -/

/-- READ_PART_IDENTITY (R176). -/
def execReadPartIdentity (s : State) : Host.Outcome State Fault Refusal := .next (serve 0 serviceReadPartIdentity s)

/-- READ_SLOT (R177). -/
def execReadSlot (slot : Byte) (s : State) : Host.Outcome State Fault Refusal :=
  .next (serve 1 (serviceReadSlot slot) s)

/-- READ_LINE (R178). -/
def execReadLine (line : Byte) (s : State) : Host.Outcome State Fault Refusal :=
  .next (serve 1 (serviceReadLine line) s)

/-- READ_LINK (R178). -/
def execReadLink (link : Byte) (s : State) : Host.Outcome State Fault Refusal :=
  .next (serve 1 (serviceReadLink link) s)

/-- READ_HISTORY (R179). -/
def execReadHistory (s : State) : Host.Outcome State Fault Refusal := .next (serve 0 serviceReadHistory s)

/-- READ_EVENTS (R184). -/
def execReadEvents (s : State) : Host.Outcome State Fault Refusal := .next (serve 0 serviceReadEvents s)

/-- CLEAR_EVENTS (R185). -/
def execClearEvents (kinds : BitVec 24) (s : State) : Host.Outcome State Fault Refusal :=
  .next (serve 3 (serviceClearEvents kinds) s)

/-- SET_EVENT_MASK (R186). -/
def execSetEventMask (kinds : BitVec 24) (s : State) : Host.Outcome State Fault Refusal :=
  .next (serve 3 (serviceSetEventMask kinds) s)

/-- FREEZE_REPORT (R180). -/
def execFreezeReport (s : State) : Host.Outcome State Fault Refusal := .next (serve 0 serviceFreezeReport s)

/-- RELEASE_REPORT (R181). -/
def execReleaseReport (s : State) : Host.Outcome State Fault Refusal := .next (serve 0 serviceReleaseReport s)

/-- FREEZE_EXPIRY (R181). -/
def execFreezeExpiry (s : State) : Host.Outcome State Fault Refusal := .next (operating expireFreeze s)

end Sys2Proof.Machine
end

