-- ==== Sys2Proof/Machine/Requests.lean ====
section
/-! DEFINITION. The Formatter Port by its bytes: a taken frame by its request code and payload (Table 10-4, R173), a
request transfer by its MOSI bytes (R172), and a read transfer (R171). -/

namespace Sys2Proof.Machine

/-! ## Arguments in a payload -/

/-- The byte of a payload at an index. -/
def byteAt (p : List Byte) (k : Nat) : Byte := (p.drop k).headD 0

/-- The number in `count` bytes of a payload from an index, at width `w`. -/
def fieldAt (w : Nat) (p : List Byte) (k count : Nat) : BitVec w := BitVec.ofNat w (numberOf ((p.drop k).take count))

/-- The entries of a Map Channels payload after its link. -/
def entriesOf : List Byte → List (Byte × Byte)
  | c :: t :: rest => (c, t) :: entriesOf rest
  | _ => []

/-- A request whose payload must have this length (R173, step 2). -/
def ofLength (n : Nat) (p : List Byte) (work : Service) : Service := if p.length = n then work else answer .badArg

/-- Configure Line by its length: one byte is the unconfigure form and nine the configure form (Table 10-4). -/
def takeConfigureLine (p : List Byte) : Service :=
  if p.length = 1 then serviceUnconfigureLine (byteAt p 0)
  else ofLength 9 p
    (serviceConfigureLine (byteAt p 0) (byteAt p 1) (byteAt p 2) (byteAt p 3) (byteAt p 4) (fieldAt 32 p 5 4))

/-- Map Channels, of any odd length (Table 10-4). -/
def takeMapChannels (p : List Byte) : Service :=
  if p.length % 2 = 1 then serviceMapChannels (byteAt p 0) (entriesOf (p.drop 1)) else answer .badArg

/-- The eight factors of a Set Temperature Factors payload. -/
def factorsOf (p : List Byte) : Vector (BitVec 16) 8 := Vector.ofFn (fun k => fieldAt 16 p (2 * k.val) 2)

/-- A taken frame, by its request code and payload (Table 10-4; R173, steps 1 and 2). -/
def takeRequest (code : Byte) (p : List Byte) : Service :=
  match code.toNat with
  | 0x01 => ofLength 0 p serviceReadPartIdentity
  | 0x02 => ofLength 1 p (serviceReadSlot (byteAt p 0))
  | 0x03 => ofLength 1 p (serviceReadLine (byteAt p 0))
  | 0x04 => ofLength 1 p (serviceReadLink (byteAt p 0))
  | 0x05 => ofLength 0 p serviceReadHistory
  | 0x08 => ofLength 0 p serviceReadEvents
  | 0x09 => ofLength 3 p (serviceClearEvents (fieldAt 24 p 0 3))
  | 0x0A => ofLength 3 p (serviceSetEventMask (fieldAt 24 p 0 3))
  | 0x10 => takeConfigureLine p
  | 0x11 => takeMapChannels p
  | 0x18 => ofLength 18 p
      (serviceLoadProfile (byteAt p 0) (fieldAt 16 p 1 2) (fieldAt 16 p 3 2) (fieldAt 16 p 5 2) (fieldAt 32 p 7 4)
        (fieldAt 32 p 11 4) (byteAt p 15) (fieldAt 16 p 16 2))
  | 0x19 => ofLength 16 p (serviceSetTemperatureFactors (factorsOf p))
  | 0x1A => ofLength 10 p
      (serviceSetPolicy (byteAt p 0) (byteAt p 1) (byteAt p 2) (fieldAt 32 p 3 4) (byteAt p 7) (fieldAt 16 p 8 2))
  | 0x1B => ofLength 6 p (serviceSetThresholds (fieldAt 16 p 0 2) (fieldAt 16 p 2 2) (fieldAt 16 p 4 2))
  | 0x20 => ofLength 0 p serviceEnterSupplyHold
  | 0x21 => ofLength 0 p serviceLeaveSupplyHold
  | 0x28 => ofLength 0 p serviceFreezeReport
  | 0x29 => ofLength 0 p serviceReleaseReport
  | 0x30 => ofLength 2 p (serviceCommitNow (fieldAt 16 p 0 2))
  | 0x31 => ofLength 1 p (serviceRetrySlot (byteAt p 0))
  | 0x38 => ofLength 17 p (serviceLoadKey (byteAt p 0) (fieldAt 128 p 1 16))
  | 0x39 => ofLength 1 p (serviceRevokeKey (byteAt p 0))
  | _ => answer .unknownRequest

/-- A request transfer, by its MOSI bytes (R172): discarded while the port is WORKING. -/
def requestTransfer (mosi : List Byte) (s : State) : State :=
  if s.port.state = .working then s.setPort { s.port with miso := zeros mosi.length }
  else match readRequest mosi with
    | .frameError used => readOn (mosi.length - used) (takeFrameError used s)
    | .taken code payload used =>
      readOn (mosi.length - used) (serve payload.length (takeRequest code payload) s)

/-- A transfer, by its MOSI bytes (R171): the first decides its kind (DESIGN CHOICE: assumption log entries 10 and
13). -/
def transfer (mosi : List Byte) (s : State) : State :=
  match mosi with
  | [] => s
  | first :: _ => if first = 0xC3 then operating (requestTransfer mosi) s else readOut mosi.length s

/-- UNKNOWN_REQUEST (R173): a taken frame whose code Table 10-4 does not hold; one whose code it holds is that
request. -/
def execUnknownRequest (code : Byte) (payload : List Byte) (s : State) : Host.Outcome State Fault Refusal :=
  .next (serve payload.length (takeRequest code payload) s)

/-- FRAME_ERROR (R172): a transfer whose frame is not in error is what its bytes make it. -/
def execFrameError (mosi : List Byte) (s : State) : Host.Outcome State Fault Refusal := .next (transfer mosi s)

/-- READ_TRANSFER (R171). -/
def execReadTransfer (count : Nat) (s : State) : Host.Outcome State Fault Refusal := .next (readOut count s)

end Sys2Proof.Machine
end

