-- ==== Sys2Proof/Machine/Probes.lean ====
section
/-! DEFINITION. The presence lines (R41 to R43), the probe measurements (R67 to R74), the settlement of a run (R73),
the resolution of a PROBING slot (R84 to R87), and what a settlement does to a READY slot (R142, R144). -/

namespace Sys2Proof.Machine

/-! ## Presence -/

/-- Whether a level disagrees with the settled presence (R41). -/
def Socket.disagrees (k : Socket) : Bool := k.asserted != (k.settled == .present)

/-- The qualification timer as the level and the settled presence call for it (R41). -/
def Socket.qualify (k : Socket) : Socket :=
  { k with timer := if k.disagrees then some qualificationTime else none }

/-- A presence line takes a level (R41). In reset the level is all there is. -/
def changePresence (i : SlotId) (asserted : Bool) (s : State) : State :=
  let k := s.socket i
  if k.asserted = asserted then s
  else if s.inReset then s.setSocket i { k with asserted := asserted }
  else s.setSocket i { k with asserted := asserted }.qualify

/-- The settled presence takes the line's level, and the timer stops (R41). -/
def settlePresence (i : SlotId) (p : SettledPresence) (s : State) : State :=
  s.setSocket i { s.socket i with settled := p, timer := none }

/-- The qualification timer expires toward PRESENT, for a VACANT slot (R41, R42). -/
def insertion (i : SlotId) (s : State) : State :=
  let k := s.socket i
  if k.timer.isSome ∧ k.asserted = true ∧ k.settled = .absent ∧ (s.slot i).state = .vacant then
    insertCartridge i (settlePresence i .present s)
  else s

/-- The qualification timer expires toward ABSENT, for a slot that is not VACANT (R41, R43). -/
def removal (i : SlotId) (s : State) : State :=
  let k := s.socket i
  if k.timer.isSome ∧ k.asserted = false ∧ k.settled = .present ∧ (s.slot i).state ≠ .vacant then
    removeCartridge i (settlePresence i .absent s)
  else s

/-! ## Measurements -/

/-- Move a slot's measurement to a phase, or end it. -/
def setMeasurement (i : SlotId) (m : Option Measurement) (s : State) : State :=
  s.setProbe i { s.probe i with inFlight := m }

/-- The probe timer of a measured slot expires (R67); a measurement in flight then starts afresh (DESIGN CHOICE:
assumption log entry 15). -/
def probeTimerExpiry (i : SlotId) (s : State) : State :=
  let u := s.probe i
  if u.timer.isSome then
    s.setProbe i
      { u with inFlight := some .excitation, timer := some (probeInterval s.probePeriod (s.slot i).state) }
  else s

/-- The excitation ends and the return window opens; a pin already low begins the low period (R69). -/
def excitationEnd (i : SlotId) (pinLow : Bool) (s : State) : State :=
  if (s.probe i).inFlight = some .excitation then
    setMeasurement i (some (if pinLow then .lowPeriod else .window)) s
  else s

/-- The pin goes low in the return window (R69). -/
def lowPeriodBegin (i : SlotId) (s : State) : State :=
  if (s.probe i).inFlight = some .window then setMeasurement i (some .lowPeriod) s else s

/-! ## Judging and runs -/

/-- The result of a judged measurement (Table 4-2): `width` is none when the outcome was NO_RETURN. -/
def judgedKind (p : Profile) (width : Option Nat) : ResultKind :=
  match width with
  | none => .noReturn
  | some w =>
    match p.probeSense with
    | .longIsWet => if p.probeThreshold ≤ w then .wet else .dry
    | .longIsDry => if p.probeThreshold ≤ w then .dry else .wet

/-- The profile entry a slot's measurements are judged against (R71). -/
def judgingProfile (s : State) (i : SlotId) : Option Profile :=
  match (s.slot i).identity with
  | some id => s.profile id.profile
  | none => none

/-- The probe state a run settles to (R72). -/
def ResultKind.settles : ResultKind → ProbeState
  | .wet => .wet
  | .dry => .dry
  | .noReturn => .fault

/-- A judged result enters the run (R72). -/
def ProbeUnit.takeResult (u : ProbeUnit) (k : ResultKind) (width : Option Nat) : ProbeUnit :=
  { u with
    inFlight := none, lastResult := some (.judged k width), runKind := some k,
    runCount := if u.runKind = some k then min 3 (u.runCount + 1) else 1 }

/-- Whether a result settles the run: it brings the count from 2 to 3 (R72). -/
def ProbeUnit.settlesWith (u : ProbeUnit) (k : ResultKind) : Bool := u.runKind == some k && u.runCount == 2

/-- A measurement that is not judged ends (R71). -/
def ProbeUnit.takeUnjudged (u : ProbeUnit) (width : Option Nat) : ProbeUnit :=
  { u with inFlight := none, lastResult := some (.unjudged width) }

/-! ## Settlement -/

/-- Resolve a slot in PROBING to DRY, or to FAULT after its PROBE_FAULT: GENUINE, with depleted yes (R86, R87). -/
def resolveGenuine (i : SlotId) (s : State) : State :=
  judgeVerdict i .genuine (setProvenance i .genuine (s.setSlot i { s.slot i with depleted := true }))

/-- Resolve a slot in PROBING (R84 to R87). -/
def resolveProbing (i : SlotId) (p : ProbeState) (s : State) : State :=
  match p with
  | .wet => judgeVerdict i .refilled (setProvenance i .refilled s)
  | .dry => resolveGenuine i s
  | .fault => resolveGenuine i (raise (.slot .probeFault i) s)
  | .unknown => s

/-- What a settlement does to the phase of a READY slot, but for the re-evaluation of its line (R142, R144). -/
def settleReadyPhase (i : SlotId) (p : ProbeState) (s : State) : State :=
  if (s.slot i).tracking = .tracked then
    if p = .dry then probeDry i s else s
  else if p.ends ∧ (s.slot i).phase = some .untracked then emptyUntracked i s
  else s

/-- A settlement is delivered to a slot in READY (R142, R144). -/
def settleReady (i : SlotId) (p : ProbeState) (s : State) : State :=
  let s' := settleReadyPhase i p s
  if (s'.slot i).phase ≠ (s.slot i).phase then reevaluateLineOf i none s' else s'

/-- A run settles: the probe state is set, PROBE_FAULT is raised if it has become FAULT, and the settlement is
delivered by the slot's state (R73). -/
def settle (i : SlotId) (p : ProbeState) (s : State) : State :=
  let old := (s.slot i).probeState
  let s := s.setSlot i { s.slot i with probeState := p }
  let s := raiseIf (p == .fault && old != .fault) (.slot .probeFault i) s
  match (s.slot i).state with
  | .probing => resolveProbing i p s
  | .ready => settleReady i p s
  | _ => s

/-- Whether a measurement that ends in this state is judged (R71). -/
def SlotState.judges : SlotState → Bool
  | .verifying => true
  | .probing => true
  | .ready => true
  | _ => false

/-- A measurement is judged (R71, R72, R73). -/
def judgeMeasurement (i : SlotId) (p : Profile) (width : Option Nat) (s : State) : State :=
  let u := s.probe i
  let k := judgedKind p width
  let s := s.setProbe i (u.takeResult k width)
  if u.settlesWith k then settle i k.settles s else s

/-- A measurement ends, with its width or with NO_RETURN (R69 to R71). -/
def endMeasurement (i : SlotId) (width : Option Nat) (s : State) : State :=
  match (s.slot i).state.judges, judgingProfile s i with
  | true, some p => judgeMeasurement i p width s
  | _, _ => s.setProbe i ((s.probe i).takeUnjudged width)

/-- The low period ends within the window (R69, R71). -/
def probeReturnEnd (i : SlotId) (width : Nat) (s : State) : State :=
  if (s.probe i).inFlight = some .lowPeriod then endMeasurement i (some width) s else s

/-- The return window closes with no complete low period in it (R70). -/
def returnWindowClose (i : SlotId) (s : State) : State :=
  if (s.probe i).inFlight = some .window ∨ (s.probe i).inFlight = some .lowPeriod then endMeasurement i none s else s

/-! ## Meanings -/

/-- PRESENCE_CHANGE (R41). -/
def execPresenceChange (slot : SlotId) (asserted : Bool) (s : State) : Host.Outcome State Fault Refusal :=
  .next (changePresence slot asserted s)

/-- INSERTION (R42). -/
def execInsertion (slot : SlotId) (s : State) : Host.Outcome State Fault Refusal :=
  .next (operating (insertion slot) s)

/-- REMOVAL (R43). -/
def execRemoval (slot : SlotId) (s : State) : Host.Outcome State Fault Refusal := .next (operating (removal slot) s)

/-- PROBE_TIMER_EXPIRY (R67). -/
def execProbeTimerExpiry (slot : SlotId) (s : State) : Host.Outcome State Fault Refusal :=
  .next (operating (probeTimerExpiry slot) s)

/-- EXCITATION_END (R69). -/
def execExcitationEnd (slot : SlotId) (pinLow : Bool) (s : State) : Host.Outcome State Fault Refusal :=
  .next (operating (excitationEnd slot pinLow) s)

/-- PROBE_RETURN_END (R71). -/
def execProbeReturnEnd (slot : SlotId) (width : BitVec 12) (s : State) : Host.Outcome State Fault Refusal :=
  .next (operating (probeReturnEnd slot width.toNat) s)

/-- RETURN_WINDOW_CLOSE (R70). -/
def execReturnWindowClose (slot : SlotId) (s : State) : Host.Outcome State Fault Refusal :=
  .next (operating (returnWindowClose slot) s)

/-- LOW_PERIOD_BEGIN (R69). -/
def execLowPeriodBegin (slot : SlotId) (s : State) : Host.Outcome State Fault Refusal :=
  .next (operating (lowPeriodBegin slot) s)

end Sys2Proof.Machine
end

