-- ==== Sys2Proof/Machine/Resets.lean ====
section
/-! DEFINITION. POWER_ON and RESET_N (R4, R9, R16, R19, R40, R41, R46, R58, R59, R65, R77, R83, R95, R107, R118, R121,
R136, R159, R171, R181, R182, R187), and the start of operation after either (R41, R59, R95). -/

namespace Sys2Proof.Machine

/-- The bank of sockets after a reset: the levels of the presence lines stand, the rest is reset (R41). -/
def resetSockets (s : State) : Vector Socket 16 := s.sockets.map (fun k => Socket.initial k.asserted)

/-- Both links after a reset: the levels of LINK_EN stand, the rest is reset (R95). -/
def resetLinks (s : State) : Vector EngineLink 2 := s.links.map (fun k => EngineLink.initial k.linkEn)

/-- The Authentication Unit after a reset: the key store stands, a programming is cut short (R46, R55, R58, R59). -/
def AuthUnit.interrupted (a : AuthUnit) : AuthUnit := { a with programming := none, reauthTimer := none }

/-- What RESET_N leaves: every block reset but for the History Table, the key store, the challenge counter and the
levels of the inputs; the part is held in reset. The queue is not the part's. -/
def resetPart (s : State) : State :=
  { State.reset with
    pending := s.pending, inReset := true, sockets := resetSockets s, auth := s.auth.interrupted,
    history := s.history, links := resetLinks s }

/-- The Authentication Unit after power-on: its counter is drawn afresh (R46). -/
def AuthUnit.powered (a : AuthUnit) : AuthUnit :=
  { a with challengeCounter := Config.entropyWord a.entropyDrawn, entropyDrawn := a.entropyDrawn + 1 }

/-- What power-on leaves: as RESET_N, with no history and a fresh challenge counter (R46, R77). -/
def powerPart (s : State) : State := ((resetPart s).setHistory []).setAuth s.auth.interrupted.powered

/-- A key slot as the start of operation finds it (R59). -/
def KeySlot.settle (k : KeySlot) : KeySlot := if k.interrupted then { state := .revoked, interrupted := false } else k

/-- Start the qualification timer of a presence line that is asserted (R41). -/
def qualifySocket (i : SlotId) (s : State) : State := s.setSocket i (s.socket i).qualify

/-- A link whose LINK_EN is asserted comes UP (R95, R96). -/
def comeUpIfEnabled (k : LinkId) (s : State) : State := if (s.link k).linkEn then comeUp k s else s

/-- The part begins to operate (R41, R59, R95): nothing happens where it already does. -/
def beginOperation (s : State) : State :=
  if s.inReset then
    let s := s.setInReset false
    let s := s.setAuth { s.auth with keys := s.auth.keys.map KeySlot.settle }
    inTurn comeUpIfEnabled allLinks (inTurn qualifySocket allSlots s)
  else s

/-- POWER_ON (R4). -/
def execPowerOn (s : State) : Host.Outcome State Fault Refusal := .next (powerPart s)

/-- RESET_N (R4). -/
def execResetN (s : State) : Host.Outcome State Fault Refusal := .next (resetPart s)

/-- END_OF_RESET (R41). -/
def execEndOfReset (s : State) : Host.Outcome State Fault Refusal := .next (beginOperation s)

end Sys2Proof.Machine
end

