-- ==== Sys2Proof/Machine/Dispatch.lean ====
section
/-! DEFINITION. The meaning of each command: one arm per constructor of Instr. -/

namespace Sys2Proof.Machine

def exec (i : Instr) (s : State) : Host.Outcome State Fault Refusal :=
  match i with
  | .powerOn => Sys2Proof.Machine.execPowerOn s
  | .resetN => Sys2Proof.Machine.execResetN s
  | .readPartIdentity => Sys2Proof.Machine.execReadPartIdentity s
  | .readSlot slot => Sys2Proof.Machine.execReadSlot slot s
  | .readLine line => Sys2Proof.Machine.execReadLine line s
  | .readLink link => Sys2Proof.Machine.execReadLink link s
  | .readHistory => Sys2Proof.Machine.execReadHistory s
  | .readEvents => Sys2Proof.Machine.execReadEvents s
  | .clearEvents kinds => Sys2Proof.Machine.execClearEvents kinds s
  | .setEventMask kinds => Sys2Proof.Machine.execSetEventMask kinds s
  | .configureLine line colour slotA slotB profile reserve => Sys2Proof.Machine.execConfigureLine line colour slotA slotB profile reserve s
  | .unconfigureLine line => Sys2Proof.Machine.execUnconfigureLine line s
  | .mapChannels link entries => Sys2Proof.Machine.execMapChannels link entries s
  | .loadProfile profile vs vm vl floor prime sense threshold => Sys2Proof.Machine.execLoadProfile profile vs vm vl floor prime sense threshold s
  | .setTemperatureFactors k => Sys2Proof.Machine.execSetTemperatureFactors k s
  | .setPolicy acceptRefilled acceptForeign probeTrust reauthPeriod quantum commitPeriod => Sys2Proof.Machine.execSetPolicy acceptRefilled acceptForeign probeTrust reauthPeriod quantum commitPeriod s
  | .setThresholds low critical probePeriod => Sys2Proof.Machine.execSetThresholds low critical probePeriod s
  | .enterSupplyHold => Sys2Proof.Machine.execEnterSupplyHold s
  | .leaveSupplyHold => Sys2Proof.Machine.execLeaveSupplyHold s
  | .freezeReport => Sys2Proof.Machine.execFreezeReport s
  | .releaseReport => Sys2Proof.Machine.execReleaseReport s
  | .commitNow slots => Sys2Proof.Machine.execCommitNow slots s
  | .retrySlot slot => Sys2Proof.Machine.execRetrySlot slot s
  | .loadKey keySlot key => Sys2Proof.Machine.execLoadKey keySlot key s
  | .keyProgrammingDone => Sys2Proof.Machine.execKeyProgrammingDone s
  | .revokeKey keySlot => Sys2Proof.Machine.execRevokeKey keySlot s
  | .unknownRequest code payload => Sys2Proof.Machine.execUnknownRequest code payload s
  | .frameError mosi => Sys2Proof.Machine.execFrameError mosi s
  | .readTransfer count => Sys2Proof.Machine.execReadTransfer count s
  | .presenceChange slot asserted => Sys2Proof.Machine.execPresenceChange slot asserted s
  | .insertion slot => Sys2Proof.Machine.execInsertion slot s
  | .removal slot => Sys2Proof.Machine.execRemoval slot s
  | .selection => Sys2Proof.Machine.execSelection s
  | .retry => Sys2Proof.Machine.execRetry s
  | .readRecordCompletion payload => Sys2Proof.Machine.execReadRecordCompletion payload s
  | .challengeCompletion marks depleted tag => Sys2Proof.Machine.execChallengeCompletion marks depleted tag s
  | .advanceMarksCompletion value => Sys2Proof.Machine.execAdvanceMarksCompletion value s
  | .markDepletedCompletion => Sys2Proof.Machine.execMarkDepletedCompletion s
  | .transactionFailure bytes => Sys2Proof.Machine.execTransactionFailure bytes s
  | .transactionTimeout => Sys2Proof.Machine.execTransactionTimeout s
  | .voidTransactionEnd complete => Sys2Proof.Machine.execVoidTransactionEnd complete s
  | .reauthenticationTimerExpiry => Sys2Proof.Machine.execReauthenticationTimerExpiry s
  | .commitTimerExpiry => Sys2Proof.Machine.execCommitTimerExpiry s
  | .freezeExpiry => Sys2Proof.Machine.execFreezeExpiry s
  | .probeTimerExpiry slot => Sys2Proof.Machine.execProbeTimerExpiry slot s
  | .excitationEnd slot pinLow => Sys2Proof.Machine.execExcitationEnd slot pinLow s
  | .probeReturnEnd slot width => Sys2Proof.Machine.execProbeReturnEnd slot width s
  | .returnWindowClose slot => Sys2Proof.Machine.execReturnWindowClose slot s
  | .linkUp link => Sys2Proof.Machine.execLinkUp link s
  | .linkDown link => Sys2Proof.Machine.execLinkDown link s
  | .countS link channel count => Sys2Proof.Machine.execCountS link channel count s
  | .countM link channel count => Sys2Proof.Machine.execCountM link channel count s
  | .countL link channel count => Sys2Proof.Machine.execCountL link channel count s
  | .band link value => Sys2Proof.Machine.execBand link value s
  | .sync link => Sys2Proof.Machine.execSync link s
  | .query link => Sys2Proof.Machine.execQuery link s
  | .badFrame link bytes => Sys2Proof.Machine.execBadFrame link bytes s
  | .grant link => Sys2Proof.Machine.execGrant link s
  | .accountReport => Sys2Proof.Machine.execAccountReport s
  | .endOfReset => Sys2Proof.Machine.execEndOfReset s
  | .commandFrameEnd => Sys2Proof.Machine.execCommandFrameEnd s
  | .grantFrameEnd link => Sys2Proof.Machine.execGrantFrameEnd link s
  | .lowPeriodBegin slot => Sys2Proof.Machine.execLowPeriodBegin slot s

end Sys2Proof.Machine
end

