-- ==== Sys2Proof/Safety.lean ====
section
/-! DEFINITION. The laws of the part: what the manual says holds of its records at all times, block by block, as
predicates that the statements about every step are made in. -/

namespace Sys2Proof.Machine

/-! ## The Event Unit -/

/-- ATTN is asserted exactly while an unmasked pair is pending (R186); every reported pair is pending (R182); both sets
stand in the order of R184, with no repeats. -/
def EventLaw (u : EventUnit) : Prop :=
  u.attn = attnLevel u.mask u.pending
  ∧ (∀ e ∈ u.reported, e ∈ u.pending)
  ∧ u.pending.Pairwise (fun a b => a.key < b.key)
  ∧ u.reported.Pairwise (fun a b => a.key < b.key)

/-! ## The Engine Links -/

/-- The intake of a link: at most 16 reports wait (R103); accumulators hold counts only while 16 do (R104); HOLD is
asserted from 12 reports and released down at 8 (R106). -/
def IntakeLaw (k : EngineLink) : Prop :=
  k.fifo.length ≤ fifoDepth
  ∧ (∀ c : ChannelId, (k.accumulator c).nonEmpty = true → k.fifo.length = fifoDepth)
  ∧ (12 ≤ k.fifo.length → k.hold = true)
  ∧ (k.fifo.length ≤ 8 → k.hold = false)

/-- A link that is DOWN has no open assembly, no grant to tell and no frame in transmission (R96, R97, R111). -/
def DownLaw (k : EngineLink) : Prop :=
  k.up = false → k.assembly = none ∧ k.grantPending = Vector.replicate 12 false ∧ k.grantFrame = none

/-- Three totals within 48 bits (Table 6-3). -/
def DropTotals.inRange (t : DropTotals) : Prop := t.s ≤ maxWord48 ∧ t.m ≤ maxWord48 ∧ t.l ≤ maxWord48

/-- The totals of a link, its accumulators' sums and its error count lie within their ranges (Table 6-3). -/
def LinkRanges (k : EngineLink) : Prop :=
  k.accepted.inRange ∧ k.unmapped.inRange ∧ k.lost.inRange ∧ k.errorCount ≤ maxWord32
  ∧ ∀ c : ChannelId, (k.accumulator c).sSum ≤ maxWord32 ∧ (k.accumulator c).mSum ≤ maxWord32
      ∧ (k.accumulator c).lSum ≤ maxWord32

/-! ## The Line Table -/

/-- The fields of a line record lie within the ranges of Table 1-3; the residue is below one nanolitre (R127). -/
def LineRanges (r : LineRecord) : Prop :=
  r.residue < 100000 ∧ r.reserve ≤ 20000000 ∧ r.reserveRemaining ≤ r.reserve
  ∧ r.dropsS ≤ maxWord48 ∧ r.dropsM ≤ maxWord48 ∧ r.dropsL ≤ maxWord48
  ∧ r.debited ≤ maxWord64 ∧ r.orphan ≤ maxWord32 ∧ r.closedFire ≤ maxWord32

/-- What Supply Hold keeps (R18): every grant CLOSED and both timers stopped. -/
def HoldLaw (s : State) : Prop :=
  s.supplyHold = true →
    (∀ l : LineId, (s.line l).grant = .closed) ∧ s.bus.commitTimer = none ∧ s.auth.reauthTimer = none

/-- Whether a line record names a slot as its slot A or its slot B. -/
def LineRecord.names (r : LineRecord) (i : SlotId) : Bool := r.slotA == i || r.slotB == some i

/-- The role of a slot that a line record names (R7). -/
def LineRecord.roleOf (r : LineRecord) (i : SlotId) : Role := if r.activeSlot = i then .active else .standby

/-- The placement fields agree with the line records (R7), and a slot is named by at most one configured line, whose
two slots differ (R10). -/
def PlacementLaw (s : State) : Prop :=
  (∀ l : LineId, (s.line l).configured = true →
    (s.line l).slotB ≠ some (s.line l).slotA ∧ ((s.line l).active = .b → (s.line l).slotB ≠ none)
    ∧ ∀ i : SlotId, (s.line l).names i = true →
        (s.slot i).line = some l ∧ (s.slot i).role = (s.line l).roleOf i)
  ∧ (∀ i : SlotId, ∀ l : LineId, (s.slot i).line = some l →
      (s.line l).configured = true ∧ (s.line l).names i = true)
  ∧ (∀ i : SlotId, (s.slot i).line = none → (s.slot i).role = .none)

/-- The law of a line's grant (R151): what the grant step gives for the slots, the reserve and Supply Hold as they
stand, RESERVE only with no usable other slot; CLOSED for a line that is not configured. -/
def GrantLaw (s : State) : Prop :=
  ∀ l : LineId,
    if (s.line l).configured then
      (s.line l).grant = grantOf s l ∧ ((s.line l).grant = .reserve → switchTarget s l = none)
    else (s.line l).grant = .closed

/-- Every map entry names a configured line or none (R13, R15, R113). -/
def MapLaw (s : State) : Prop :=
  ∀ k : LinkId, ∀ c : ChannelId, ∀ l : LineId, s.mapEntry k c = some l → (s.line l).configured = true

/-! ## Settings -/

/-- The policy record within the ranges of Table 1-4. -/
def PolicyLaw (p : Policy) : Prop :=
  (p.reauthPeriod = 0 ∨ (10 ≤ p.reauthPeriod ∧ p.reauthPeriod ≤ 86400))
  ∧ 1 ≤ p.commitQuantum ∧ p.commitQuantum ≤ 50 ∧ 1 ≤ p.commitPeriod ∧ p.commitPeriod ≤ 600

/-- A present profile entry within the ranges of Table 7-1, at least one drop volume above 0. -/
def ProfileLaw (p : Profile) : Prop :=
  (0 < p.vs ∨ 0 < p.vm ∨ 0 < p.vl) ∧ p.vs ≤ 65535 ∧ p.vm ≤ 65535 ∧ p.vl ≤ 65535 ∧ p.emptyFloor ≤ 100000000
  ∧ p.prime ≤ 10000000 ∧ 50 ≤ p.probeThreshold ∧ p.probeThreshold ≤ 4000

/-- Every setting within its range: policy (R19), thresholds (R136), probe period (R65), temperature factors (R121)
and profile entries (R118). -/
def SettingsLaw (s : State) : Prop :=
  PolicyLaw s.policy
  ∧ (1 ≤ s.thresholds.low ∧ s.thresholds.low ≤ 500 ∧ s.thresholds.critical < s.thresholds.low)
  ∧ (100 ≤ s.probePeriod ∧ s.probePeriod ≤ 5000)
  ∧ (∀ b : Band, 768 ≤ s.factor b ∧ s.factor b ≤ 1279)
  ∧ (∀ n : ProfileId, ∀ p : Profile, s.profile n = some p → ProfileLaw p)

/-! ## The History Table -/

/-- At most 32 entries, no serial twice (R77). -/
def HistoryLaw (h : List HistoryEntry) : Prop := h.length ≤ historyDepth ∧ (h.map HistoryEntry.serial).Nodup

/-- An entry's consumed stands at or above its committed marks' volume, and within its range (R77, R78). -/
def EntryLaw (e : HistoryEntry) : Prop :=
  e.committedMarks * markVolume ≤ e.consumed ∧ e.consumed ≤ maxWord32

/-! ## The Slot Table -/

/-- A slot's settled presence is PRESENT exactly while its state is other than VACANT (R41). -/
def PresenceLaw (s : State) : Prop :=
  ∀ i : SlotId, (s.socket i).settled = .present ↔ (s.slot i).state ≠ .vacant

/-- The qualification timer runs exactly while the level disagrees with the settled presence (R41). -/
def QualifyLaw (s : State) : Prop :=
  s.inReset = false → ∀ i : SlotId, (s.socket i).timer.isSome = (s.socket i).disagrees

/-- Which cartridge fields hold what in each state (Table 1-2, Table 1-1): reject reason, provenance, identity and
phase. -/
def FieldLaw (r : SlotRecord) : Prop :=
  (r.rejectReason.isSome = true ↔ r.state = .rejected)
  ∧ (r.phase.isSome = true ↔ (r.state = .ready ∨ r.state = .probing))
  ∧ (r.state = .probing → r.phase = some .untracked)
  ∧ ((r.state = .vacant ∨ r.state = .identifying ∨ r.state = .verifying ∨ r.state = .probing) → r.provenance = none)
  ∧ ((r.state = .vacant ∨ r.state = .identifying) → r.identity = none)
  ∧ ((r.state = .verifying ∨ r.state = .probing ∨ r.state = .ready) → r.identity.isSome = true)
  ∧ (r.state = .ready → r.provenance.isSome = true)
  ∧ (r.state = .rejected →
      (r.provenance.isSome = true ↔ (r.rejectReason = some .notAccepted ∨ r.rejectReason = some .duplicate)))
  ∧ (r.state = .rejected → (r.identity.isSome = true ↔ r.rejectReason ≠ some .badRecord))

/-- Tracking is TRACKED exactly while provenance is GENUINE (R51), and an UNTRACKED slot has no level phase (R142). -/
def TrackingLaw (r : SlotRecord) : Prop :=
  (r.tracking = .tracked ↔ r.provenance = some .genuine)
  ∧ (r.state = .ready → (r.phase = some .untracked → r.tracking = .untracked)
      ∧ (r.tracking = .untracked → r.phase = some .untracked ∨ r.phase = some .empty))

/-- The counters of a slot: seeded committed marks never exceed consumed (R157), and every READY slot is seeded
(R54); both lie within their ranges (R52, Table 1-1). -/
def CounterLaw (r : SlotRecord) : Prop :=
  (r.seeded = true → r.committedMarks * markVolume ≤ r.consumed)
  ∧ (r.state = .ready → r.seeded = true)
  ∧ r.consumed ≤ maxWord32 ∧ r.committedMarks ≤ maxHeldMarks
  ∧ (∀ id, r.identity = some id → 10000 ≤ id.fill ∧ id.fill ≤ 2000000)

/-- Bus failures reach 3 in FAULT alone (R34, R35). -/
def FailureLaw (r : SlotRecord) : Prop := r.busFailures ≤ 3 ∧ (r.busFailures = 3 → r.state = .fault)

/-- A slot record's own laws together. -/
def SlotLaw (r : SlotRecord) : Prop := FieldLaw r ∧ TrackingLaw r ∧ CounterLaw r ∧ FailureLaw r

/-- No two slots in PROBING or READY hold the same serial (R50). -/
def SerialLaw (s : State) : Prop :=
  ∀ i j : SlotId, ∀ a b : Identity,
    ((s.slot i).state = .probing ∨ (s.slot i).state = .ready) →
    ((s.slot j).state = .probing ∨ (s.slot j).state = .ready) →
    (s.slot i).identity = some a → (s.slot j).identity = some b → a.serial = b.serial → i = j

/-- A slot in VERIFYING, PROBING or READY finds its profile entry present (R71, R124), and so does one that Set Policy
may still take to READY, REJECTED with NOT_ACCEPTED (R62). -/
def ProfilePresent (s : State) : Prop :=
  ∀ i : SlotId, ∀ id : Identity,
    ((s.slot i).state = .verifying ∨ (s.slot i).state = .probing ∨ (s.slot i).state = .ready
      ∨ ((s.slot i).state = .rejected ∧ (s.slot i).rejectReason = some .notAccepted)) →
    (s.slot i).identity = some id → s.profile id.profile ≠ none

/-! ## The Cartridge Bus Controller -/

/-- The needs a slot may hold in its state (R38, R42, R45, R163). -/
def NeedLaw (r : SlotRecord) (n : NeedSet) : Prop :=
  (n.identify = true → r.state = .identifying)
  ∧ (n.challenge = true → r.state = .verifying ∨ r.state = .ready)
  ∧ ((n.commit = true ∨ n.markDepleted = true) → r.readyGenuine = true)

/-- The payload a transaction for a need carries (Table 2-4, R164). -/
def Payload.suits (p : Payload) (x : Need) : Prop :=
  match x, p with
  | .identify, .empty => True
  | .challenge, .challenge _ => True
  | .commit, .count n => 1 ≤ n ∧ n ≤ maxCommitCount
  | .markDepleted, .empty => True
  | _, _ => False

/-- The transaction in flight (R32, R37): its payload is that of its command; while it is not void its need stays in
its slot's set, what it claims lies within the slot's uncommitted volume (R157, R164), and only a READY slot's
transaction is renewed (R29). -/
def FlightLaw (s : State) : Prop :=
  ∀ t : Transaction, s.bus.inFlight = some t →
    t.payload.suits t.need
    ∧ (t.void = false → (s.needSet t.slot).has t.need = true ∧ claimed s t.slot ≤ uncommitted (s.slot t.slot)
        ∧ (t.renewed = true → (s.slot t.slot).state = .ready))

/-- The wire (R20, R24): a command frame is driven only for the transaction in flight, the timeout runs exactly from the
end of its frame to its end, and bytes are ignored only within it. -/
def WireLaw (b : BusController) : Prop :=
  (b.driving.isSome = true → b.inFlight.isSome = true)
  ∧ b.timeout.isSome = (b.inFlight.isSome && b.driving.isNone)
  ∧ (b.ignoring = true → b.inFlight.isSome = true ∧ b.driving = none)

/-! ## The Authentication Unit and the port -/

/-- The port is WORKING exactly while a key slot is programmed; that key slot is BLANK with its mark set, and outside
reset no other mark is set (R59, R173). -/
def KeyLaw (s : State) : Prop :=
  (s.port.state = .working ↔ s.auth.programming.isSome = true)
  ∧ (∀ p : Programming, s.auth.programming = some p →
      (s.keySlot p.keySlot).state = .blank ∧ (s.keySlot p.keySlot).interrupted = true)
  ∧ (∀ k : KeySlotId, (s.keySlot k).interrupted = true → (s.keySlot k).state = .blank
      ∧ (s.inReset = true ∨ s.auth.programming.map Programming.keySlot = some k))
  ∧ (s.inReset = true → s.auth.programming = none)

/-- A slot in PROBING, and a READY slot that is GENUINE, name a key slot that is LOADED (R51). -/
def LoadedLaw (s : State) : Prop :=
  ∀ i : SlotId, ∀ id : Identity,
    ((s.slot i).state = .probing ∨ (s.slot i).readyGenuine = true) → (s.slot i).identity = some id →
    (s.keySlot id.keyIndex).state.isLoaded = true

/-- The port's states as they stand between commands: none is ever left in RECEIVING, and a response stands exactly in
RESPONDING, its read position short of its end (R171). -/
def PortLaw (p : FormatterPort) : Prop :=
  p.state ≠ .receiving ∧ p.receiving = []
  ∧ (p.state = .responding → p.readPosition < p.response.length)
  ∧ (p.state ≠ .responding → p.response = [] ∧ p.readPosition = 0)

/-! ## The Probe Unit -/

/-- A slot is measured exactly in IDENTIFYING, VERIFYING, PROBING and READY (R66); its timer runs and a measurement is
in flight only then (R74), and the run count is at most 3 (R65). -/
def ProbeLaw (s : State) : Prop :=
  ∀ i : SlotId,
    ((s.probe i).measuring = true ↔
      ((s.slot i).state = .identifying ∨ (s.slot i).state = .verifying ∨ (s.slot i).state = .probing
        ∨ (s.slot i).state = .ready))
    ∧ ((s.probe i).timer.isSome = true ↔ (s.probe i).measuring = true)
    ∧ ((s.probe i).inFlight.isSome = true → (s.probe i).measuring = true)
    ∧ (s.probe i).runCount ≤ 3
    ∧ ((s.probe i).runKind = none ↔ (s.probe i).runCount = 0)

/-! ## The part -/

/-- What a part held in reset holds: the reset values of the blocks that a command could otherwise reach. -/
def ResetLaw (s : State) : Prop :=
  s.inReset = true →
    s.slots = State.reset.slots ∧ s.lines = State.reset.lines ∧ s.maps = State.reset.maps ∧ s.needs = State.reset.needs
    ∧ s.probes = State.reset.probes ∧ s.supplyHold = true ∧ s.bus.inFlight = none
    ∧ s.bus.commitTimer = none ∧ s.auth.reauthTimer = none
    ∧ (∀ k : LinkId, (s.link k).up = false) ∧ s.events = EventUnit.initial ∧ s.port.state = .idle ∧ s.freeze = none

/-- The laws of both links. -/
def LinksLaw (s : State) : Prop := ∀ k : LinkId, IntakeLaw (s.link k) ∧ DownLaw (s.link k) ∧ LinkRanges (s.link k)

/-- The settings and the line records within their ranges. -/
def RangesLaw (s : State) : Prop := SettingsLaw s ∧ ∀ l : LineId, LineRanges (s.line l)

/-- The laws of the Slot Table and of the history it writes. -/
def SlotTableLaw (s : State) : Prop :=
  PresenceLaw s ∧ (∀ i : SlotId, SlotLaw (s.slot i)) ∧ SerialLaw s ∧ ProfilePresent s ∧ LoadedLaw s
  ∧ ∀ e ∈ s.history, EntryLaw e

/-- The laws of the Cartridge Bus Controller, the probes and the debounce. -/
def SlotWorkLaw (s : State) : Prop :=
  (∀ i : SlotId, NeedLaw (s.slot i) (s.needSet i)) ∧ FlightLaw s ∧ WireLaw s.bus ∧ ProbeLaw s ∧ QualifyLaw s

/-- The laws of Supply Hold, the channel maps, the port and reset. -/
def ModeLaw (s : State) : Prop := HoldLaw s ∧ MapLaw s ∧ PortLaw s.port ∧ ResetLaw s

/-- The laws of the part together. -/
def PartLaw (s : State) : Prop :=
  EventLaw s.events ∧ LinksLaw s ∧ RangesLaw s ∧ HistoryLaw s.history ∧ KeyLaw s ∧ PlacementLaw s ∧ GrantLaw s
  ∧ SlotTableLaw s ∧ SlotWorkLaw s ∧ ModeLaw s

/-! # Terms the statements are made in

The statements about single commands say the next state in these terms: the requests and their answers, what work on
one slot may do elsewhere, the frames on the wires, and the history an operation writes. -/

/-! ## Requests -/

/-- The part operates and its port takes a request frame (R172, R187). -/
def State.takesRequests (s : State) : Prop := s.inReset = false ∧ s.port.state ≠ .working

/-- The port once a request frame of `bytes` bytes has been answered (R172 to R174). -/
def answeredPort (bytes : Nat) (status : Status) (payload : List Byte) : FormatterPort :=
  { state := .responding, receiving := [], response := responseFrame { status := status, payload := payload },
    readPosition := 0, miso := List.replicate bytes 0x00 }

/-- The state with a request frame of `bytes` bytes answered, and nothing else changed. -/
def State.answered (s : State) (bytes : Nat) (status : Status) (payload : List Byte) : State :=
  { s with port := answeredPort bytes status payload }

/-- The source byte of the four snapshot reads (R175): 1 while a report freeze is in force. -/
def sourceByte (s : State) : Byte := if s.freeze.isSome then 1 else 0

/-- A number in the byte of a request argument. -/
def argByte (n : Nat) : Byte := BitVec.ofNat 8 n

/-- An optional number in the byte of a request argument: none is 0xFF (Table 10-4). -/
def optionByte {n : Nat} : Option (Fin n) → Byte
  | some x => argByte x.val
  | none => 0xFF

/-- The code and payload of a request's frame (Table 10-4); none for a command that is not a request. -/
def requestOf : Instr → Option (Byte × List Byte)
  | .readPartIdentity => some (0x01, [])
  | .readSlot i => some (0x02, [i])
  | .readLine l => some (0x03, [l])
  | .readLink k => some (0x04, [k])
  | .readHistory => some (0x05, [])
  | .readEvents => some (0x08, [])
  | .clearEvents kinds => some (0x09, bytesOf 3 kinds.toNat)
  | .setEventMask kinds => some (0x0A, bytesOf 3 kinds.toNat)
  | .configureLine l c a b p reserve => some (0x10, [l, c, a, b, p] ++ bytesOf 4 reserve.toNat)
  | .unconfigureLine l => some (0x10, [l])
  | .mapChannels k entries => some (0x11, k :: entries.flatMap (fun e => [e.1, e.2]))
  | .loadProfile p vs vm vl floor prime sense threshold =>
    some (0x18, [p] ++ bytesOf 2 vs.toNat ++ bytesOf 2 vm.toNat ++ bytesOf 2 vl.toNat ++ bytesOf 4 floor.toNat
      ++ bytesOf 4 prime.toNat ++ [sense] ++ bytesOf 2 threshold.toNat)
  | .setTemperatureFactors k => some (0x19, k.toList.flatMap (fun x => bytesOf 2 x.toNat))
  | .setPolicy refilled foreign trust reauth quantum commit =>
    some (0x1A, [refilled, foreign, trust] ++ bytesOf 4 reauth.toNat ++ [quantum] ++ bytesOf 2 commit.toNat)
  | .setThresholds low critical period =>
    some (0x1B, bytesOf 2 low.toNat ++ bytesOf 2 critical.toNat ++ bytesOf 2 period.toNat)
  | .enterSupplyHold => some (0x20, [])
  | .leaveSupplyHold => some (0x21, [])
  | .freezeReport => some (0x28, [])
  | .releaseReport => some (0x29, [])
  | .commitNow slots => some (0x30, bytesOf 2 slots.toNat)
  | .retrySlot i => some (0x31, [i])
  | .loadKey k key => some (0x38, k :: bytesOf 16 key.toNat)
  | .revokeKey k => some (0x39, [k])
  | .unknownRequest code payload => some (code, payload)
  | _ => none

/-- The payload lengths Table 10-4 allows for a request code. -/
def lengthAllowed (code n : Nat) : Bool :=
  match code with
  | 0x02 | 0x03 | 0x04 | 0x31 | 0x39 => n == 1
  | 0x09 | 0x0A => n == 3
  | 0x10 => n == 1 || n == 9
  | 0x11 => n % 2 == 1
  | 0x18 => n == 18
  | 0x19 => n == 16
  | 0x1A => n == 10
  | 0x1B => n == 6
  | 0x30 => n == 2
  | 0x38 => n == 17
  | _ => n == 0

/-- The length field of a request frame's bytes. -/
def lengthField (mosi : List Byte) : Nat := numberOf ((mosi.drop 1).take 2)

/-- A request transfer that ends at the byte at which its frame error is taken (R172): the frame is cut short, its
length lies above 64, or its CRC-16 does not match. -/
def endsInFrameError (mosi : List Byte) : Prop :=
  mosi.head? = some 0xC3 ∧
    (mosi.length ≤ 3
     ∨ (lengthField mosi ≤ 64 ∧ mosi.length < 6 + lengthField mosi)
     ∨ (lengthField mosi ≤ 64 ∧ mosi.length = 6 + lengthField mosi
        ∧ numberOf (mosi.drop (4 + lengthField mosi)) ≠ (portCrc (mosi.take (4 + lengthField mosi))).toNat))

/-- A request transfer in which the frame error has been taken before CS_N is deasserted: bytes may follow (R172). -/
def takenInFrameError (mosi : List Byte) : Prop :=
  endsInFrameError mosi ∧
    ((mosi.length = 3 ∧ 64 < lengthField mosi) ∨ (lengthField mosi ≤ 64 ∧ mosi.length = 6 + lengthField mosi))

/-! ## Events -/

/-- The pairs of `must` have been raised, with no other pair than those `may` admits, and nothing was cleared. -/
def Raises (s t : State) (must : List Event) (may : Event → Bool) : Prop :=
  (∀ e ∈ s.events.pending, e ∈ t.events.pending) ∧ (∀ e ∈ must, e ∈ t.events.pending)
  ∧ (∀ e ∈ t.events.pending, e ∈ s.events.pending ∨ e ∈ must ∨ may e = true)
  ∧ t.events.reported = s.events.reported ∧ t.events.mask = s.events.mask

/-- No further pair. -/
def nothingElse : Event → Bool := fun _ => false

/-- The news that the re-evaluation of the line of slot `i` may bring: the line's own, and the level events of its
slots, which a prime may cause (R148, R150, R152). -/
def lineNews (s : State) (i : SlotId) : Event → Bool
  | .line .switchover l => (s.slot i).line == some l
  | .line .lineReserve l => (s.slot i).line == some l
  | .line .lineClosed l => (s.slot i).line == some l
  | .slot .levelLow j => (s.slot i).line.isSome && (s.slot j).line == (s.slot i).line
  | .slot .levelCritical j => (s.slot i).line.isSome && (s.slot j).line == (s.slot i).line
  | .slot .levelEmpty j => (s.slot i).line.isSome && (s.slot j).line == (s.slot i).line
  | _ => false

/-- The line news, or a warning or verdict event of slot `i` (R51, R54, R44). -/
def slotNews (s : State) (i : SlotId) : Event → Bool
  | .slot .rejected j => j == i
  | .slot .accepted j => j == i
  | .slot .refillWarning j => j == i
  | .slot .rewindWarning j => j == i
  | .slot .foreignWarning j => j == i
  | .slot .levelLow j => j == i || lineNews s i (.slot .levelLow j)
  | .slot .levelCritical j => j == i || lineNews s i (.slot .levelCritical j)
  | .slot .levelEmpty j => j == i || lineNews s i (.slot .levelEmpty j)
  | .slot .probeDisagree j => j == i
  | .slot .probeFault j => j == i
  | e => lineNews s i e

/-! ## What work on one slot leaves of the others -/

/-- Two records of a slot that agree but for what the feeding of its line sets: consumed, primed, phase and role. -/
def SlotRecord.agrees (a b : SlotRecord) : Prop :=
  { a with consumed := b.consumed, primed := b.primed, phase := b.phase, role := b.role } = b

/-- Two records of a line that agree but for what its re-evaluation sets: active, reserve remaining, grant and
debited. -/
def LineRecord.agrees (a b : LineRecord) : Prop :=
  { a with active := b.active, reserveRemaining := b.reserveRemaining, grant := b.grant, debited := b.debited } = b

/-- What work on slot `i` may have done to other slots, to lines and to links: no more than the re-evaluation of the
line of slot `i` does (R147 to R152). -/
def OnlyItsLine (s t : State) (i : SlotId) : Prop :=
  (∀ j : SlotId, j ≠ i → (t.slot j).agrees (s.slot j)
    ∧ (((s.slot i).line = none ∨ (s.slot j).line ≠ (s.slot i).line) → t.slot j = s.slot j ∧ t.needSet j = s.needSet j)
    ∧ (t.needSet j).identify = (s.needSet j).identify ∧ (t.needSet j).challenge = (s.needSet j).challenge
    ∧ ((s.needSet j).commit = true → (t.needSet j).commit = true)
    ∧ ((s.needSet j).markDepleted = true → (t.needSet j).markDepleted = true))
  ∧ (t.slot i).line = (s.slot i).line
  ∧ (∀ l : LineId, (t.line l).agrees (s.line l) ∧ ((s.slot i).line ≠ some l → t.line l = s.line l))
  ∧ (∀ k : LinkId, { t.link k with grantPending := (s.link k).grantPending } = s.link k)

/-- The bus as it stood but for the renewed mark of the transaction in flight (R29). -/
def BusKept (s t : State) : Prop :=
  ({ t.bus with inFlight := s.bus.inFlight } : BusController) = s.bus
  ∧ t.bus.inFlight.map (fun r => ({ r with renewed := false } : Transaction))
      = s.bus.inFlight.map (fun r => ({ r with renewed := false } : Transaction))

/-- The state of a slot just rejected (R44). -/
def RejectedAs (t : State) (i : SlotId) (reason : RejectReason) (identity : Option Identity)
    (provenance : Option Provenance) : Prop :=
  (t.slot i).state = .rejected ∧ (t.slot i).rejectReason = some reason ∧ (t.slot i).identity = identity
  ∧ (t.slot i).provenance = provenance ∧ (t.slot i).phase = none ∧ t.needSet i = NeedSet.empty
  ∧ (t.probe i).measuring = false ∧ (t.probe i).timer = none ∧ (t.probe i).inFlight = none
  ∧ .slot .rejected i ∈ t.events.pending

/-- The record of a slot that has been emptied or sent back to identification (R3): its placement stays, its role as
its line's re-evaluation leaves it. -/
def EmptiedTo (s t : State) (i : SlotId) (state : SlotState) : Prop :=
  t.slot i = { SlotRecord.vacantAt (s.slot i).line (t.slot i).role with state := state }

/-! ## The History Table -/

/-- The entry a write with record `r` leaves at position 1 (R78). -/
def writtenEntry (s : State) (i : SlotId) (r : SlotRecord) (id : Identity) : HistoryEntry :=
  let old := (historyFind id.serial s.history).getD (HistoryEntry.blank id.serial i)
  let trusted := r.seeded && (r.provenance == some .genuine || r.provenance == some .refilled
    || r.provenance == some .rewound)
  { serial := id.serial,
    committedMarks := if trusted then max old.committedMarks r.committedMarks else old.committedMarks,
    consumed := if trusted then max old.consumed r.consumed else old.consumed,
    depleted := if trusted then old.depleted || r.depleted else old.depleted,
    lastSlot := i,
    lastVerdict := if r.provenance = none then old.lastVerdict else r.provenance }

/-- What an eviction leaves (R79): the table less the entry in the highest position whose serial no slot holds. -/
def evictedOne (s : State) (h : List HistoryEntry) : Prop :=
  ∃ n ∈ List.range s.history.length, h = s.history.eraseIdx n
    ∧ (∀ e ∈ s.history.drop (n + 1), serialHeld s e.serial = true)
    ∧ (∀ e ∈ (s.history.drop n).take 1, serialHeld s e.serial = false)

/-- The History Table has been written once for slot `i` with record `r` (R78, R79); not at all where its identity is
none. -/
def HistoryWritten (s t : State) (i : SlotId) (r : SlotRecord) : Prop :=
  (r.identity = none → t.history = s.history)
  ∧ ∀ id, r.identity = some id →
      t.history.head? = some (writtenEntry s i r id)
      ∧ (if (historyFind id.serial s.history).isSome then
           t.history.tail = s.history.filter (fun e => e.serial != id.serial)
         else if s.history.length < 32 then t.history.tail = s.history
         else evictedOne s t.history.tail)

/-! ## Configure Line -/

/-- Whether Configure Line with colour `c` for slots `a` and `b` rejects slot `i` as MISPLACED (R12). -/
def misplacedBy (s : State) (a : SlotId) (b : Option SlotId) (c : BitVec 4) (i : SlotId) : Bool :=
  (i == a || b == some i)
  && ((s.slot i).state == .verifying || (s.slot i).state == .probing || (s.slot i).state == .ready)
  && (s.slot i).identity.any (fun id => id.colour != c)

/-- The events a Configure Line of line `l` with slots `a` and `b` may raise beside REJECTED (R12, R148, R150, R152): the
line's own, and the level events of its slots, which a prime may cause. -/
def configureNews (l : LineId) (a : SlotId) (b : Option SlotId) : Event → Bool
  | .line .switchover m => m == l
  | .line .lineClosed m => m == l
  | .slot .levelLow j => j == a || b == some j
  | .slot .levelCritical j => j == a || b == some j
  | .slot .levelEmpty j => j == a || b == some j
  | _ => false

/-- The History Table has been written for slot `i` where a write was due, with a record that is `before` but for what
the feeding of its line sets; where none was due it stands (R44, R78). -/
def HistoryWrittenIf (due : Bool) (s t : State) (i : SlotId) (before : SlotRecord) : Prop :=
  if due then ∃ r : SlotRecord, r.agrees before ∧ HistoryWritten s t i r else t.history = s.history

/-! ## The Cartridge Bus -/

/-- The rank of a need at a phase, class A first (R30). -/
def classRank (x : Need) (phase : Option Phase) : Nat :=
  match x with
  | .identify => 1
  | .challenge => 2
  | .commit => if phase = some .empty then 0 else 3
  | .markDepleted => if phase = some .empty then 0 else 3

/-- The place of a slot in the order of service: its class, then its distance from the slot after the last-served
slot (R31); none where it has no next need. -/
def servicePlace (s : State) (i : SlotId) : Option Nat :=
  (s.needSet i).next.map (fun x => classRank x (s.slot i).phase * 16 + (i - s.bus.lastServed - 1).val)

/-- Slot `i` is the one to be selected, for need `x` (R30, R31). -/
def ToBeServed (s : State) (i : SlotId) (x : Need) : Prop :=
  (s.needSet i).next = some x ∧ ∀ j : SlotId, ∀ n, servicePlace s j = some n → (servicePlace s i).getD 0 ≤ n

/-- The payload a transaction that starts now carries (R47, R164). -/
def startPayload (s : State) (i : SlotId) (x : Need) : Payload :=
  match x with
  | .identify => .empty
  | .challenge => .challenge (s.auth.challengeCounter ++ Config.entropyWord s.auth.entropyDrawn)
  | .commit => .count (min 255 (((s.slot i).consumed - (s.slot i).committedMarks * 100000) / 100000))
  | .markDepleted => .empty

/-- The state in which a transaction has just started, `last` being the last-served slot (R20, R32, R46). -/
def State.started (s : State) (i : SlotId) (x : Need) (last : SlotId) : State :=
  { s with
    bus := { s.bus with
      lastServed := last,
      inFlight := some { slot := i, need := x, payload := startPayload s i x, renewed := false, void := false },
      driving := some (commandFrame i x (startPayload s i x)), timeout := none, ignoring := false, quiet := none,
      retryFor := none },
    auth := if x = .challenge then
        { s.auth with challengeCounter := s.auth.challengeCounter + 1, entropyDrawn := s.auth.entropyDrawn + 1 }
      else s.auth }

/-- The COMMIT of a slot would be dropped at its start: less than one mark is uncommitted (R164). -/
def CommitEmpty (s : State) (i : SlotId) (x : Need) : Prop :=
  x = .commit ∧ (s.slot i).consumed < (s.slot i).committedMarks * 100000 + 100000

/-- The bus once a transaction has ended: the wire free, the quiet interval begun (R20). -/
def endedBus (b : BusController) : BusController :=
  { b with inFlight := none, driving := none, timeout := none, ignoring := false, quiet := some 1 }

/-- The bus once the timeout of a transaction with a wrong address echo has ended (R20): a transaction that has become
void meanwhile leaves no retry (R37). -/
def echoEnded (b : BusController) (r : Transaction) : BusController :=
  { endedBus b with retryFor := if r.void then none else b.retryFor }

/-- The bus once a wrong address echo has been taken: the transaction goes on to the end of its timeout, and bytes are
ignored until then (R20). -/
def echoBus (b : BusController) : BusController := { b with ignoring := true }

/-- The part is listening for the response of a transaction (R20): its frame has been sent, and no wrong echo taken. -/
def Listening (s : State) (r : Transaction) : Prop :=
  s.inReset = false ∧ s.bus.inFlight = some r ∧ s.bus.driving = none ∧ s.bus.ignoring = false

/-- The index of a response's CRC-8, which its status fixes (R22). -/
def crcIndex (x : Need) (bytes : List Byte) : Nat :=
  if (bytes.drop 1).head? = some 0x00 then 2 + responsePayloadLength x else 2

/-- How a failure leaves the bus (R20, R22, R28): by the bytes received, or by the end of the timeout; none where the
command shows no failure. -/
def failureBus (c : Instr) (s : State) (r : Transaction) : Option BusController :=
  match c with
  | .transactionFailure bytes =>
    match bytes with
    | [] => none
    | echo :: _ =>
      if echo ≠ addressByte r.slot then some (echoBus s.bus)
      else match bytes[crcIndex r.need bytes]? with
        | none => none
        | some crc =>
          if crc ≠ cartridgeCrc (bytes.take (crcIndex r.need bytes)) ∨ (bytes.drop 1).head? ≠ some 0x00 then
            some (endedBus s.bus)
          else none
  | .transactionTimeout => if s.bus.timeout.isSome then some (endedBus s.bus) else none
  | _ => none

/-- The payload bytes of a CHALLENGE response (Table 2-4). -/
def challengeBytes (marks : BitVec 16) (depleted : Byte) (tag : BitVec 64) : List Byte :=
  bytesOf 2 marks.toNat ++ [depleted] ++ bytesOf 8 tag.toNat

/-! ## Verdicts -/

/-- Whether another slot in VERIFYING, PROBING or READY holds an identity with the serial (R50). -/
def serialElsewhere (s : State) (i : SlotId) (serial : BitVec 64) : Bool :=
  decide (∃ j : SlotId, j ≠ i
    ∧ ((s.slot j).state = .verifying ∨ (s.slot j).state = .probing ∨ (s.slot j).state = .ready)
    ∧ (s.slot j).identity.map Identity.serial = some serial)

/-- The tag of a CHALLENGE response matches (R27, R48): the key slot is LOADED and the tag function over its key gives
the tag. -/
def tagMatches (s : State) (id : Identity) (sent : BitVec 64) (marks : BitVec 16) (depleted : Byte)
    (tag : BitVec 64) : Bool :=
  match (s.keySlot id.keyIndex).state with
  | .loaded key => Config.tagFunction key (identityBits id) sent marks (depleted != 0) == tag
  | _ => false

/-- A verdict is accepted by the policy (R53). -/
def accepted (p : Policy) : Provenance → Bool
  | .genuine => true
  | .refilled => p.acceptRefilled
  | .rewound => p.acceptForeign
  | .foreign cause => p.acceptForeign && cause != .duplicate

/-- A slot has been put to the policy with a verdict (R53): READY where it is accepted, REJECTED with NOT_ACCEPTED
where it is not. -/
def PutToPolicy (s t : State) (i : SlotId) (p : Provenance) : Prop :=
  (t.slot i).provenance = some p ∧ ((t.slot i).tracking = .tracked ↔ p = .genuine)
  ∧ (accepted s.policy p = true → (t.slot i).state = .ready)
  ∧ (accepted s.policy p = false → RejectedAs t i .notAccepted (s.slot i).identity (some p))

/-- A slot has entered READY (R54): seeded from its chip and the History Table, with ACCEPTED raised; its prime may have
been taken in its line's re-evaluation. -/
def SeededRecord (s t : State) (i : SlotId) (id : Identity) (marks : Nat) : Prop :=
  let seed := max (max (s.slot i).consumed (min marks 42949 * 100000)) (historyConsumed s id.serial)
  (t.slot i).state = .ready ∧ (t.slot i).rejectReason = none ∧ (t.slot i).seeded = true
  ∧ (t.slot i).committedMarks = min marks 42949
  ∧ (t.slot i).consumed
      = (if (t.slot i).primed = (s.slot i).primed then seed
         else min 4294967295 (seed + ((s.profile id.profile).map Profile.prime).getD 0))
  ∧ ((t.slot i).provenance = some .genuine → min marks 42949 * 100000 + 100000 ≤ seed →
      (t.needSet i).commit = true)
  ∧ .slot .accepted i ∈ t.events.pending

/-- A slot has entered READY from identification (R54): seeded, and written to the history. -/
def SeededReady (s t : State) (i : SlotId) (id : Identity) (marks : Nat) : Prop :=
  SeededRecord s t i id marks ∧ t.history.head?.map HistoryEntry.serial = some id.serial

/-- The phase of a slot once it has been evaluated (R140): for one that is TRACKED and READY the more severe of the phase
it had and the computed phase. -/
def phaseAfter (s t : State) (i : SlotId) : Option Phase :=
  if (s.slot i).state = .ready ∧ (s.slot i).tracking = .tracked
      ∧ ((s.slot i).phase.getD .normal).severity < (computedPhase t (t.slot i)).severity
  then some (computedPhase t (t.slot i)) else (s.slot i).phase

/-- A verdict as Set Policy re-judges it (R62, step 1): a REJECTED slot whose key slot is no longer LOADED and whose
verdict is not yet FOREIGN becomes FOREIGN with cause KEY_UNAVAILABLE. -/
def rejudgedVerdict (s : State) (id : Identity) (p : Provenance) : Provenance :=
  if (s.keySlot id.keyIndex).state.isLoaded = false ∧ p.isForeign = false then .foreign .keyUnavailable else p

/-- Slot `i` meets no other slot with its serial when Set Policy re-judges it (R50, R62): none in PROBING or READY, and
none REJECTED with NOT_ACCEPTED that is taken before it. -/
def SerialFree (s : State) (i : SlotId) (serial : BitVec 64) : Prop :=
  ∀ j : SlotId, j ≠ i → (s.slot j).identity.map Identity.serial = some serial →
    (s.slot j).state ≠ .probing ∧ (s.slot j).state ≠ .ready
    ∧ (j < i → ¬ ((s.slot j).state = .rejected ∧ (s.slot j).rejectReason = some .notAccepted))

/-! ## Key revocation (R61) -/

/-- A revocation of key slot `k` converts slot `i`: it stands in VERIFYING, PROBING or READY and its identity names `k`. -/
def revocationConverts (s : State) (k : KeySlotId) (i : SlotId) : Bool :=
  (s.slot i).identity.any (fun id => id.keyIndex == k)
  && ((s.slot i).state == .verifying || (s.slot i).state == .probing || (s.slot i).state == .ready)

/-- Line `l` feeds from a slot that a revocation of key slot `k` converts. -/
def revocationMeets (s : State) (k : KeySlotId) (l : LineId) : Bool :=
  decide (∃ i : SlotId, revocationConverts s k i = true ∧ (s.slot i).line = some l)

/-- The events a revocation of key slot `k` may raise: the warnings and verdicts of the slots it converts, and the news
of their lines (R54, R57, R61, R148, R150, R152). -/
def revocationNews (s : State) (k : KeySlotId) : Event → Bool
  | .slot .foreignWarning j => revocationConverts s k j
  | .slot .accepted j => revocationConverts s k j
  | .slot .rejected j => revocationConverts s k j
  | .slot .levelLow j => (s.slot j).line.any (revocationMeets s k)
  | .slot .levelCritical j => (s.slot j).line.any (revocationMeets s k)
  | .slot .levelEmpty j => revocationConverts s k j || (s.slot j).line.any (revocationMeets s k)
  | .line .switchover l => revocationMeets s k l
  | .line .lineReserve l => revocationMeets s k l
  | .line .lineClosed l => revocationMeets s k l
  | _ => false

/-- Another slot in PROBING or READY holds the serial when a revocation from `s` to `t` comes to slot `i`: the
lower-numbered slots stand as the revocation has left them, the higher-numbered as it found them (R50, R61). -/
def HeldAtTurn (s t : State) (i : SlotId) (serial : BitVec 64) : Prop :=
  ∃ j : SlotId, j ≠ i ∧ (s.slot j).identity.map Identity.serial = some serial
    ∧ (((if j < i then t else s).slot j).state = .probing ∨ ((if j < i then t else s).slot j).state = .ready)

/-- The phase of an UNTRACKED slot short of EMPTY, by its probe state (R57, R141). -/
def untrackedPhase (r : SlotRecord) : Phase :=
  if r.probeState = .dry ∨ r.probeState = .fault then .empty else .untracked

/-- What a revocation makes of slot `i` in VERIFYING or PROBING with identity `id` (R61): a duplicate is rejected as one,
and any other is FOREIGN with KEY_UNAVAILABLE and put to the policy. An accepted one is seeded from its held marks and
depleted, keeps its needs, and leaves the PROBING rate. -/
def RevokedUnjudged (s t : State) (i : SlotId) (id : Identity) : Prop :=
  .slot .foreignWarning i ∈ t.events.pending
  ∧ (HeldAtTurn s t i id.serial → RejectedAs t i .duplicate (some id) (some (.foreign .duplicate)))
  ∧ (¬ HeldAtTurn s t i id.serial →
      PutToPolicy s t i (.foreign .keyUnavailable)
      ∧ ((t.slot i).state = .ready →
          SeededRecord s t i id (s.slot i).committedMarks
          ∧ (t.slot i).depleted = (s.slot i).depleted ∧ (t.slot i).phase = some (untrackedPhase (s.slot i))
          ∧ (∃ e ∈ t.history, e.serial = id.serial ∧ e.lastSlot = i)
          ∧ t.needSet i = s.needSet i
          ∧ t.probe i =
              (if (s.slot i).state = .probing then { s.probe i with timer := some s.probePeriod } else s.probe i)))

/-- What a revocation makes of a READY slot `i` with identity `id` and provenance `p` (R57, R61): one already FOREIGN
keeps provenance and cause, any other becomes FOREIGN with KEY_UNAVAILABLE, and either is put to the policy. An accepted
one stays READY and UNTRACKED, its usage needs gone where its provenance has changed; its phase follows its probe state,
and one that has taken its prime meanwhile may have become EMPTY by it. -/
def RevokedReady (s t : State) (i : SlotId) (id : Identity) (p : Provenance) : Prop :=
  let q : Provenance := if p.isForeign then p else .foreign .keyUnavailable
  let phase := if p.isForeign = true ∨ (s.slot i).phase = some .empty then (s.slot i).phase
    else some (untrackedPhase (s.slot i))
  (p.isForeign = false → .slot .foreignWarning i ∈ t.events.pending)
  ∧ (phase = some .empty → (s.slot i).phase ≠ some .empty → .slot .levelEmpty i ∈ t.events.pending)
  ∧ (accepted s.policy q = false → RejectedAs t i .notAccepted (some id) (some q))
  ∧ (accepted s.policy q = true →
      (t.slot i).agrees { s.slot i with provenance := some q, tracking := .untracked }
      ∧ (if (t.slot i).primed = (s.slot i).primed then
           (t.slot i).phase = phase ∧ (t.slot i).consumed = (s.slot i).consumed
         else (t.slot i).phase = phase ∨ (t.slot i).phase = some .empty)
      ∧ t.needSet i =
          (if p.isForeign then s.needSet i else { s.needSet i with commit := false, markDepleted := false })
      ∧ t.probe i = s.probe i)

/-! ## Probes -/

/-- The slot of a measurement that ends, with its width where the low period was complete (R69, R70). -/
def endedMeasurement (c : Instr) (s : State) : Option (SlotId × Option Nat) :=
  match c with
  | .probeReturnEnd i w => if (s.probe i).inFlight = some .lowPeriod then some (i, some w.toNat) else none
  | .returnWindowClose i =>
    if (s.probe i).inFlight = some .window ∨ (s.probe i).inFlight = some .lowPeriod then some (i, none) else none
  | _ => none

/-- The result of a judged measurement (Table 4-2). -/
def resultOf (p : Profile) (width : Option Nat) : ResultKind :=
  match width with
  | none => .noReturn
  | some w => if decide (p.probeThreshold ≤ w) = (p.probeSense == .longIsWet) then .wet else .dry

/-- The probe state that a settled run gives (R72). -/
def settledState (k : ResultKind) : ProbeState :=
  match k with
  | .wet => .wet
  | .dry => .dry
  | .noReturn => .fault

/-! ## The Engine Links -/

/-- The COUNT frame of a size. -/
def countCommand (x : DropSize) (k : LinkId) (c : ChannelId) (n : BitVec 16) : Instr :=
  match x with
  | .s => .countS k (BitVec.ofNat 4 c.val) n
  | .m => .countM k (BitVec.ofNat 4 c.val) n
  | .l => .countL k (BitVec.ofNat 4 c.val) n

/-- Whether a COUNT frame finds an open assembly that it cannot extend (R99, R100). -/
def OutOfOrder (a : Option Assembly) (x : DropSize) (c : ChannelId) : Bool :=
  match a with
  | none => false
  | some a =>
    a.channel != c || (x == .s && (a.sCount.isSome || a.mCount.isSome)) || (x == .m && a.mCount.isSome)

/-- The report an assembly forms with a count of L (R102). -/
def reportOf (a : Assembly) (nl : Nat) (band : Band) (isPartial : Bool) : Report :=
  { channel := a.channel, ns := a.sCount.getD 0, nm := a.mCount.getD 0, nl := nl, band := band,
    isPartial := isPartial }

/-- The assembly a COUNT frame acts on (R99, R100): the open one it extends, or a new one. -/
def assemblyFor (k : EngineLink) (x : DropSize) (c : ChannelId) : Assembly :=
  if OutOfOrder k.assembly x c then { channel := c, sCount := none, mCount := none, bandOpening := k.band }
  else k.assembly.getD { channel := c, sCount := none, mCount := none, bandOpening := k.band }

/-- The assembly a COUNT frame leaves open (R99). -/
def assemblyAfter (k : EngineLink) (x : DropSize) (c : ChannelId) (n : Nat) : Option Assembly :=
  match x with
  | .s => some { assemblyFor k .s c with sCount := some n }
  | .m => some { assemblyFor k .m c with mCount := some n }
  | .l => none

/-- The partial report of an open assembly, where there is one (R100, R101). -/
def partialReport (k : EngineLink) : List Report :=
  k.assembly.toList.map (fun a => reportOf a 0 k.band true)

/-- The reports a COUNT frame forms, in order (R99, R100, R102). -/
def reportsFormed (k : EngineLink) (x : DropSize) (c : ChannelId) (n : Nat) : List Report :=
  (if OutOfOrder k.assembly x c then partialReport k else [])
    ++ (if x = .l then [reportOf (assemblyFor k .l c) n k.band false] else [])

/-- A report formed while the FIFO is full has been added to the accumulator of its channel, what passes a sum's range
going to the lost totals (R104). -/
def EngineLink.spilled (e : EngineLink) (r : Report) : EngineLink :=
  let a := e.accumulator r.channel
  { e with
    accumulators := e.accumulators.set r.channel.val
      { sSum := min 4294967295 (a.sSum + r.ns), mSum := min 4294967295 (a.mSum + r.nm),
        lSum := min 4294967295 (a.lSum + r.nl), band := r.band },
    lost :=
      { s := min 281474976710655 (e.lost.s + (a.sSum + r.ns - 4294967295)),
        m := min 281474976710655 (e.lost.m + (a.mSum + r.nm - 4294967295)),
        l := min 281474976710655 (e.lost.l + (a.lSum + r.nl - 4294967295)) } }

/-- The reports have entered the intake path of a link (R103, R104, R106): the FIFO has taken what it has room for,
and the rest has gone to the accumulators and the lost totals. -/
def TakenIn (e e' : EngineLink) (reports : List Report) : Prop :=
  e'.fifo = (e.fifo ++ reports).take 16
  ∧ e'.hold = (e.hold || decide (e.fifo.length < 12 ∧ 12 ≤ e'.fifo.length))
  ∧ { e' with fifo := e.fifo, hold := e.hold } = (reports.drop (16 - e.fifo.length)).foldl EngineLink.spilled e

/-- A link once the head of its intake FIFO has been taken, `rest` being what stood after it (R105, R106): a full FIFO
takes in the lowest accumulator that holds counts, and HOLD is released at 8 reports. -/
def EngineLink.headTaken (e : EngineLink) (rest : List Report) : EngineLink :=
  let holds : ChannelId → Bool := fun c =>
    decide (0 < (e.accumulator c).sSum + (e.accumulator c).mSum + (e.accumulator c).lSum)
  match if e.fifo.length = 16 then allChannels.find? holds else none with
  | none => { e with fifo := rest, hold := e.hold && rest.length != 8 }
  | some c =>
    let a := e.accumulator c
    { e with
      fifo := rest ++ [{ channel := c, ns := a.sSum, nm := a.mSum, nl := a.lSum, band := a.band, isPartial := true }],
      hold := e.hold && rest.length != 8,
      accumulators := e.accumulators.set c.val { sSum := 0, mSum := 0, lSum := 0, band := a.band } }

/-- The link that a command brings a frame on; none for other commands (R94). -/
def engineLinkOf : Instr → Option LinkId
  | .countS k _ _ => some k
  | .countM k _ _ => some k
  | .countL k _ _ => some k
  | .band k _ => some k
  | .sync k => some k
  | .query k => some k
  | .badFrame k _ => some k
  | _ => none

/-- The four bytes of an engine's frame with a correct CRC-8 (Table 6-1). -/
def engineFrameBytes (kind channel : Nat) (value : BitVec 16) : List Byte :=
  let body : List Byte := argByte (kind * 16 + channel) :: bytesOf 2 value.toNat
  body ++ [engineCrc body]

/-- A total by drop size. -/
def DropTotals.of (t : DropTotals) : DropSize → Nat
  | .s => t.s
  | .m => t.m
  | .l => t.l

/-- A report's count of a drop size. -/
def Report.of (r : Report) : DropSize → Nat
  | .s => r.ns
  | .m => r.nm
  | .l => r.nl

/-- An accumulator's sum of a drop size. -/
def Accumulator.of (a : Accumulator) : DropSize → Nat
  | .s => a.sSum
  | .m => a.mSum
  | .l => a.lSum

/-- An assembly's count of a drop size; it never holds an L count (R99). -/
def Assembly.of (a : Assembly) : DropSize → Nat
  | .s => a.sCount.getD 0
  | .m => a.mCount.getD 0
  | .l => 0

/-- The counts of a drop size in flight in a link: in its open assembly, its FIFO and its accumulators (R110). -/
def EngineLink.inFlightCount (k : EngineLink) (x : DropSize) : Nat :=
  (k.assembly.map (fun a => a.of x)).getD 0 + (k.fifo.map (fun r => r.of x)).sum
    + (allChannels.map (fun c => (k.accumulator c).of x)).sum

/-- The link the Intake Arbiter takes a report from (R107): the one not served last when its FIFO holds a report, and
otherwise the one served last. -/
def Arbitrates (s : State) (k : LinkId) : Prop :=
  (s.link k).fifo ≠ [] ∧ (k ≠ s.lastServedLink ∨ ∀ j : LinkId, j ≠ k → (s.link j).fifo = [])

/-- The count of a drop size that a command hands to the Accounting Unit from a link (R107). -/
def handedOver (c : Instr) (s : State) (k : LinkId) (x : DropSize) : Nat :=
  if c = .accountReport ∧ s.inReset = false ∧ arbitrated s = some k then
    ((s.link k).fifo.head?.map (fun r => r.of x)).getD 0
  else 0

/-! ## Accounting -/

/-- The total volume in cpL that stage 3 divides (R125 to R127): the line's residue and the report's corrected
volume. -/
def stageTotal (s : State) (l : LineId) (p : Profile) (r : Report) : Nat :=
  (s.line l).residue + ((r.ns * p.vs + r.nm * p.vm + r.nl * p.vl) * s.factor r.band + 512) / 1024

/-- The line record with a report's drops counted (R124). -/
def withDrops (r : LineRecord) (x : Report) : LineRecord :=
  { r with dropsS := min 281474976710655 (r.dropsS + x.ns), dropsM := min 281474976710655 (r.dropsM + x.nm),
           dropsL := min 281474976710655 (r.dropsL + x.nl) }

/-- The closed-fire total after a debit (R129). -/
def closedFireAfter (r : LineRecord) (debit : Nat) : Nat :=
  if r.grant = .closed then min 4294967295 (r.closedFire + debit) else r.closedFire

/-! ## Resets -/

/-- Every block but the inputs, the key store, the challenge counter and the History Table as a reset leaves it
(R4, R9, R16, R19, R40, R55, R59, R65, R107, R118, R121, R136, R159, R171, R181, R182). -/
def BlocksReset (t : State) : Prop :=
  (∀ i : SlotId, t.slot i = SlotRecord.vacantAt none .none ∧ t.needSet i = NeedSet.empty
    ∧ t.probe i = ProbeUnit.initial)
  ∧ t.probePeriod = 1000 ∧ t.bus = BusController.initial
  ∧ t.auth.programming = none ∧ t.auth.reauthTimer = none
  ∧ (∀ l : LineId, t.line l = LineRecord.initial) ∧ (∀ k : LinkId, ∀ c : ChannelId, t.mapEntry k c = none)
  ∧ t.supplyHold = true ∧ t.policy = Policy.default ∧ t.thresholds = { low := 150, critical := 50 }
  ∧ (∀ p : ProfileId, t.profile p = none) ∧ (∀ b : Band, t.factor b = 1024)
  ∧ t.lastServedLink = 1 ∧ t.events = EventUnit.initial ∧ t.port = FormatterPort.initial ∧ t.freeze = none

end Sys2Proof.Machine
end

