-- ==== Sys2Proof/WellFormed.lean ====
section
/-! DEFINITION. Well-formed commands: the operands make the command the row it is written as. The meaning of an
ill-formed command is that of the row its operands make it. -/

namespace Sys2Proof

open Machine

/-- The request codes of Table 10-4. -/
def requestCodes : List Byte :=
  [0x01, 0x02, 0x03, 0x04, 0x05, 0x08, 0x09, 0x0A, 0x10, 0x11, 0x18, 0x19, 0x1A, 0x1B, 0x20, 0x21, 0x28, 0x29, 0x30,
   0x31, 0x38, 0x39]

/-- The most payload bytes of a request frame (Table 10-2). -/
def maxPayload : Nat := 64

/-- Whether a request transfer's bytes hold a frame error (R172). -/
def isFrameError (mosi : List Byte) : Bool :=
  match readRequest mosi with
  | .frameError _ => true
  | .taken _ _ _ => false

/-- A Map Channels whose payload fits a request frame (Table 10-2, Table 10-4). -/
def mapFits (entries : List (Byte × Byte)) : Bool := decide (1 + 2 * entries.length ≤ maxPayload)

/-- A taken frame whose code Table 10-4 does not hold (R173, step 1). -/
def codeUnknown (code : Byte) (payload : List Byte) : Bool :=
  !requestCodes.contains code && decide (payload.length ≤ maxPayload)

/-- A request transfer (R171) whose frame is in error (R172). -/
def badRequest (mosi : List Byte) : Bool := mosi.head? == some 0xC3 && isFrameError mosi

/-- The channel field of an accepted COUNT frame (R94). -/
def countChannel (channel : BitVec 4) : Bool := decide (channel.toNat < 12)

/-- A frame that fails a check of R94. -/
def frameIsBad (bytes : List Byte) : Bool := (readEngineFrame bytes).isNone

/-- Whether a command is well-formed. -/
def Instr.wellFormed : Instr → Bool
  | .powerOn => true
  | .resetN => true
  | .readPartIdentity => true
  | .readSlot _ => true
  | .readLine _ => true
  | .readLink _ => true
  | .readHistory => true
  | .readEvents => true
  | .clearEvents _ => true
  | .setEventMask _ => true
  | .configureLine _ _ _ _ _ _ => true
  | .unconfigureLine _ => true
  | .mapChannels _ entries => mapFits entries
  | .loadProfile _ _ _ _ _ _ _ _ => true
  | .setTemperatureFactors _ => true
  | .setPolicy _ _ _ _ _ _ => true
  | .setThresholds _ _ _ => true
  | .enterSupplyHold => true
  | .leaveSupplyHold => true
  | .freezeReport => true
  | .releaseReport => true
  | .commitNow _ => true
  | .retrySlot _ => true
  | .loadKey _ _ => true
  | .keyProgrammingDone => true
  | .revokeKey _ => true
  | .unknownRequest code payload => codeUnknown code payload
  | .frameError mosi => badRequest mosi
  | .readTransfer _ => true
  | .presenceChange _ _ => true
  | .insertion _ => true
  | .removal _ => true
  | .selection => true
  | .retry => true
  | .readRecordCompletion _ => true
  | .challengeCompletion _ _ _ => true
  | .advanceMarksCompletion _ => true
  | .markDepletedCompletion => true
  | .transactionFailure _ => true
  | .transactionTimeout => true
  | .voidTransactionEnd _ => true
  | .reauthenticationTimerExpiry => true
  | .commitTimerExpiry => true
  | .freezeExpiry => true
  | .probeTimerExpiry _ => true
  | .excitationEnd _ _ => true
  | .probeReturnEnd _ _ => true
  | .returnWindowClose _ => true
  | .linkUp _ => true
  | .linkDown _ => true
  | .countS _ channel _ => countChannel channel
  | .countM _ channel _ => countChannel channel
  | .countL _ channel _ => countChannel channel
  | .band _ _ => true
  | .sync _ => true
  | .query _ => true
  | .badFrame _ bytes => frameIsBad bytes
  | .grant _ => true
  | .accountReport => true
  | .endOfReset => true
  | .commandFrameEnd => true
  | .grantFrameEnd _ => true
  | .lowPeriodBegin _ => true

end Sys2Proof
end

