-- ==== Sys2Proof/Certificates/Slice0/Obligations.lean ====
section
/-! DEFINITION. The statements for the provers: what each command does, what it leaves, and the laws that every step
keeps. Every docstring names the rules of spec/ it states. -/

section

open Sys2Proof

open Sys2Proof.Machine

/-! ## The queue and the whole part -/

/-- A step takes the command at the front of the queue and executes it with the queue's rest. -/
def Obligations.StepTakesFront : Prop :=
  ∀ (c : Instr) (rest : List Instr) (s : State),
    s.pending = c :: rest → step s = exec c { s with pending := rest }

/-- The model's choice (log entry 7): on an empty queue one millisecond passes, and every running timer is one less. -/
def Obligations.EmptyQueueIsOneMillisecond : Prop :=
  ∀ (s : State), s.pending = [] →
    ∃ t, step s = .next t ∧
      (∀ i : SlotId, t.socket i = { s.socket i with timer := (s.socket i).timer.map (fun n => n - 1) }
        ∧ t.probe i = { s.probe i with timer := (s.probe i).timer.map (fun n => n - 1) })
      ∧ t.bus = { s.bus with
          timeout := s.bus.timeout.map (fun n => n - 1), quiet := s.bus.quiet.map (fun n => n - 1),
          commitTimer := s.bus.commitTimer.map (fun r => { r with left := r.left - 1 }) }
      ∧ t.auth = { s.auth with
          programming := s.auth.programming.map (fun p => { p with timer := p.timer - 1 }),
          reauthTimer := s.auth.reauthTimer.map (fun r => { r with left := r.left - 1 }) }
      ∧ t.freeze = s.freeze.map (fun f => { f with timer := { f.timer with left := f.timer.left - 1 } })
      ∧ t = { s with sockets := t.sockets, probes := t.probes, bus := t.bus, auth := t.auth, freeze := t.freeze }

/-- Every command completes in every state, and none touches the queue of waiting commands (the form of the block's
model: the spec names no condition that stops the part). -/
def Obligations.EveryCommandCompletes : Prop :=
  ∀ (c : Instr) (s : State), ∃ t, exec c s = .next t ∧ t.pending = s.pending

/-- POWER_ON and RESET_N put every block in its reset state. Both keep the key store and the levels of the inputs;
RESET_N keeps the History Table and the challenge counter, and POWER_ON empties the one and draws the other afresh
(R4, R9, R40, R41, R46, R58, R59, R77, R83, R95, R182). That the part is then held in reset, its input levels kept, is the
model's reading (log entry 6, DEDUCED), and the numbering of the words drawn from entropy is its choice (log entry 1). -/
def Obligations.ResetsThePart : Prop :=
  ∀ (s : State),
    (∃ t, exec .powerOn s = .next t ∧ BlocksReset t ∧ t.inReset = true ∧ t.pending = s.pending ∧ t.history = []
      ∧ t.auth.keys = s.auth.keys ∧ t.auth.challengeCounter = Config.entropyWord s.auth.entropyDrawn
      ∧ t.auth.entropyDrawn = s.auth.entropyDrawn + 1
      ∧ (∀ i : SlotId, t.socket i = { asserted := (s.socket i).asserted, settled := .absent, timer := none })
      ∧ (∀ k : LinkId, t.link k = EngineLink.initial (s.link k).linkEn))
    ∧ (∃ t, exec .resetN s = .next t ∧ BlocksReset t ∧ t.inReset = true ∧ t.pending = s.pending
      ∧ t.history = s.history ∧ t.auth.keys = s.auth.keys
      ∧ t.auth.challengeCounter = s.auth.challengeCounter ∧ t.auth.entropyDrawn = s.auth.entropyDrawn
      ∧ (∀ i : SlotId, t.socket i = { asserted := (s.socket i).asserted, settled := .absent, timer := none })
      ∧ (∀ k : LinkId, t.link k = EngineLink.initial (s.link k).linkEn))

/-- When the part begins to operate, a key slot whose mark is set becomes REVOKED with its mark cleared, the
qualification timer of a presence line that disagrees starts from 50 ms, and a link whose LINK_EN is asserted comes UP
(R41, R59, R95, R96). -/
def Obligations.OperationBegins : Prop :=
  ∀ (s : State), s.inReset = true →
    ∃ t, exec .endOfReset s = .next t ∧ t.inReset = false
      ∧ (∀ k : KeySlotId, t.keySlot k =
          if (s.keySlot k).interrupted then { state := .revoked, interrupted := false } else s.keySlot k)
      ∧ (∀ i : SlotId, t.socket i =
          { s.socket i with
            timer := if (s.socket i).asserted = decide ((s.socket i).settled = .present) then none else some 50 })
      ∧ (∀ k : LinkId, t.link k =
          if (s.link k).linkEn = true ∧ (s.link k).up = false then
            { s.link k with up := true, band := 4, grantPending := Vector.replicate 12 true }
          else s.link k)
      ∧ t = { s with inReset := false, auth := { s.auth with keys := t.auth.keys }, sockets := t.sockets,
                     links := t.links }

/-- The state after reset meets every law of the part. It rests on log entries 5 and 6 for the key store, the inputs
and the part in operation. -/
def Obligations.ResetMeetsTheLaws : Prop := PartLaw State.reset

/-! ## The Formatter Port -/

/-- A request that arrives while the part is held in reset is not received, and one that arrives while the port is
WORKING is discarded with 0x00 on MISO: neither has any other effect. The same holds of a transfer that begins as a
request frame and is in error (R172, R187). What counts as reset is the model's reading (log entry 6, DEDUCED), and the
record of MISO and the row of bytes are its choice (log entries 10 and 13). -/
def Obligations.RequestNotReceived : Prop :=
  ∀ (c : Instr) (mosi : List Byte) (s : State),
    (∀ r, requestOf c = some r →
      (s.inReset = true → exec c s = .next s)
      ∧ (s.inReset = false → s.port.state = .working →
          exec c s = .next { s with port := { s.port with miso := List.replicate (6 + r.2.length) 0x00 } }))
    ∧ (mosi.head? = some 0xC3 →
      (s.inReset = true → exec (.frameError mosi) s = .next s)
      ∧ (s.inReset = false → s.port.state = .working →
          exec (.frameError mosi) s = .next { s with port := { s.port with miso := List.replicate mosi.length 0x00 } }))

/-- The bytes of a request's frame do what the request does (Table 10-2, Table 10-4, R172); so do the bytes of an
engine's frame (Table 6-1, Table 6-2, R94) and of a response with status OK (Table 2-2 to Table 2-4, R22, R23). That a
FRAME_ERROR, BAD_FRAME or TRANSACTION_FAILURE row whose bytes are good acts as what they spell is the model's choice (log
entry 13). -/
def Obligations.FramesSpellTheirCommands : Prop :=
  ∀ (c : Instr) (k : LinkId) (channel : ChannelId) (field : BitVec 4) (value : BitVec 16) (record : RecordPayload)
    (depleted : Byte) (tag : BitVec 64) (s : State),
    (∀ r, requestOf c = some r → r.2.length ≤ 64 → exec (.frameError (requestFrame r.1 r.2)) s = exec c s)
    ∧ (∀ x : DropSize,
        exec (.badFrame k (engineFrameBytes (match x with | .s => 1 | .m => 2 | .l => 3) channel.val value)) s
          = exec (countCommand x k channel value) s)
    ∧ exec (.badFrame k (engineFrameBytes 4 field.toNat value)) s = exec (.band k (value.extractLsb' 8 8)) s
    ∧ exec (.badFrame k (engineFrameBytes 5 field.toNat value)) s = exec (.sync k) s
    ∧ exec (.badFrame k (engineFrameBytes 6 field.toNat value)) s = exec (.query k) s
    ∧ (∀ r, s.bus.inFlight = some r →
        (r.need = .identify → exec (.transactionFailure (okResponse r.slot (encodeRecord record))) s
          = exec (.readRecordCompletion record) s)
        ∧ (r.need = .challenge → exec (.transactionFailure (okResponse r.slot (challengeBytes value depleted tag))) s
          = exec (.challengeCompletion value depleted tag) s)
        ∧ (r.need = .commit → exec (.transactionFailure (okResponse r.slot (bytesOf 2 value.toNat))) s
          = exec (.advanceMarksCompletion value) s)
        ∧ (r.need = .markDepleted → exec (.transactionFailure (okResponse r.slot [])) s
          = exec .markDepletedCompletion s))

/-- The read requests answer OK with their records: the four snapshot reads from the snapshot with source FROZEN while a
freeze is in force and from the live records with source LIVE otherwise, Read Part Identity and Read Events from live
state. But for Read Events they change no state, and an argument out of range is answered BAD_ARG (R175 to R180). -/
def Obligations.ReadRequestsAnswer : Prop :=
  ∀ (b : Byte) (s : State), s.takesRequests →
    let source := (s.freeze.map Freeze.snapshot).getD (liveSnapshot s)
    exec .readPartIdentity s = .next (s.answered 6 .ok (identityReply s))
    ∧ exec .readHistory s = .next (s.answered 6 .ok (sourceByte s :: historyReply source))
    ∧ (∀ i : SlotId, b = argByte i.val → exec (.readSlot b) s = .next (s.answered 7 .ok (sourceByte s :: slotReply source i)))
    ∧ (16 ≤ b.toNat → exec (.readSlot b) s = .next (s.answered 7 .badArg []))
    ∧ (∀ l : LineId, b = argByte l.val → exec (.readLine b) s = .next (s.answered 7 .ok (sourceByte s :: lineReply source l)))
    ∧ (12 ≤ b.toNat → exec (.readLine b) s = .next (s.answered 7 .badArg []))
    ∧ (∀ k : LinkId, b = argByte k.val → exec (.readLink b) s = .next (s.answered 7 .ok (sourceByte s :: linkReply source k)))
    ∧ (2 ≤ b.toNat → exec (.readLink b) s = .next (s.answered 7 .badArg []))
    ∧ (∃ t, exec .readEvents s = .next t ∧ t.port = answeredPort 6 .ok (eventsReply s.events))

/-- Freeze Report takes a snapshot of the records and starts the freeze timer from 250 ms; Release Report ends a
freeze without an event; the expiry of the timer ends it with FREEZE_EXPIRED, and does nothing where none runs. After a
Freeze Report that restarted the timer the expiry it overtook does not happen (R180, R181). Until when an expiry counts as
overtaken is the model's choice (log entry 8). -/
def Obligations.ReportFreeze : Prop :=
  ∀ (s : State),
    (s.takesRequests →
      exec .freezeReport s = .next
        { s with
          port := answeredPort 6 .ok [],
          freeze := some { timer := { left := 250, restarted := s.freeze.isSome }, snapshot :=
            { slots := s.slots, sockets := s.sockets, probes := s.probes, probePeriod := s.probePeriod,
              needs := s.needs, inFlight := s.bus.inFlight, lines := s.lines, maps := s.maps, links := s.links,
              history := s.history } } }
      ∧ exec .releaseReport s = .next { s with port := answeredPort 6 .ok [], freeze := none })
    ∧ (s.inReset = false →
      (s.freeze = none → exec .freezeExpiry s = .next s)
      ∧ (∀ f, s.freeze = some f → f.timer.restarted = true → 0 < f.timer.left → exec .freezeExpiry s = .next s)
      ∧ (∀ f, s.freeze = some f → (f.timer.restarted = false ∨ f.timer.left = 0) →
          ∃ t, exec .freezeExpiry s = .next t ∧ t.freeze = none ∧ Raises s t [.freezeExpired] nothingElse
            ∧ t = { s with freeze := none, events := t.events }))

/-- While a freeze is in force, no command changes its snapshot but Freeze Report, Release Report, the expiry of the
freeze timer and the resets: the live records go on changing and the snapshot does not (R180). -/
def Obligations.SnapshotStands : Prop :=
  ∀ (c : Instr) (s : State), ∀ f, s.freeze = some f → c.wellFormed = true →
    c ≠ .freezeReport → c ≠ .releaseReport → c ≠ .freezeExpiry → c ≠ .powerOn → c ≠ .resetN →
    ∃ t, exec c s = .next t ∧ t.freeze = some f

/-- Clear Events removes exactly the reported pairs of the kinds named, from both sets, and drives ATTN from what is
left; a raise of a pair that is pending changes nothing (R185). -/
def Obligations.ClearEventsRemovesReported : Prop :=
  ∀ (kinds : BitVec 24) (s : State), s.takesRequests →
    ∃ t, exec (.clearEvents kinds) s = .next t
      ∧ t.events.pending = s.events.pending.filter (fun e =>
          !(s.events.reported.contains e && kinds.getLsbD (e.code - 1)))
      ∧ t.events.reported = s.events.reported.filter (fun e => !(kinds.getLsbD (e.code - 1)))
      ∧ t.events.mask = s.events.mask
      ∧ (t.events.attn = true ↔ ∃ e ∈ t.events.pending, s.events.mask.getLsbD (e.code - 1) = true)
      ∧ (EventLaw s.events →
          (∀ e ∈ s.events.reported, kinds.getLsbD (e.code - 1) = false) → t.events = s.events)
      ∧ (∀ e ∈ s.events.pending, raise e s = s)
      ∧ t = { s with events := t.events, port := answeredPort 9 .ok [] }

/-- Read Events returns the mask, the pending pairs in ascending kind code and subject, and the level of ATTN, and the
reported set then equals the pending set (R184). Set Event Mask writes the whole mask, leaves both sets, and drives ATTN:
asserted exactly while a pending pair's kind is unmasked (R186). The coding of ATTN in the reply, 1 for asserted, is the
model's reading (log entry 16, DEDUCED). -/
def Obligations.ReadEventsAndSetMask : Prop :=
  ∀ (kinds : BitVec 24) (s : State), s.takesRequests →
    exec .readEvents s = .next
      { s with
        events := { s.events with reported := s.events.pending },
        port := answeredPort 6 .ok
          (bytesOf 3 s.events.mask.toNat ++ bytesOf 2 s.events.pending.length
            ++ s.events.pending.flatMap (fun e => [argByte e.code, argByte e.subject])
            ++ [if s.events.attn then 1 else 0]) }
    ∧ (EventLaw s.events → s.events.pending.Pairwise
        (fun a b => a.code < b.code ∨ (a.code = b.code ∧ a.subject < b.subject)))
    ∧ ∃ t, exec (.setEventMask kinds) s = .next t
        ∧ t.events.mask = kinds ∧ t.events.pending = s.events.pending ∧ t.events.reported = s.events.reported
        ∧ (t.events.attn = true ↔ ∃ e ∈ s.events.pending, kinds.getLsbD (e.code - 1) = true)
        ∧ t = { s with events := t.events, port := answeredPort 9 .ok [] }

/-- A taken frame whose code Table 10-4 does not hold is answered UNKNOWN_REQUEST, and one whose length the table does
not allow is answered BAD_ARG; neither changes any other state (R173, steps 1 and 2). -/
def Obligations.UnknownRequestAndLength : Prop :=
  ∀ (code : Byte) (payload : List Byte) (s : State), s.takesRequests → payload.length ≤ 64 →
    (code ∉ requestCodes →
      exec (.unknownRequest code payload) s = .next (s.answered (6 + payload.length) .unknownRequest []))
    ∧ (code ∈ requestCodes → lengthAllowed code.toNat payload.length = false →
      exec (.unknownRequest code payload) s = .next (s.answered (6 + payload.length) .badArg []))

/-- A frame error is answered FRAME_ERROR with no state of another block changed; the bytes that follow one in its
transfer are a read transfer (R172). -/
def Obligations.FrameErrorAnswered : Prop :=
  ∀ (mosi extra : List Byte) (s : State), s.takesRequests →
    (endsInFrameError mosi → exec (.frameError mosi) s = .next (s.answered mosi.length .frameError []))
    ∧ (takenInFrameError mosi →
        ∃ t, exec (.readTransfer extra.length) (s.answered mosi.length .frameError []) = .next t ∧
          exec (.frameError (mosi ++ extra)) s = .next
            { t with port := { t.port with miso := List.replicate mosi.length 0x00 ++ t.port.miso } })

/-- A read transfer carries 0xFF in IDLE, 0x00 in WORKING, and in RESPONDING the response from the read position, which
advances; once the last byte has been sent the port is IDLE and later bytes are 0xFF (R171). -/
def Obligations.ReadTransferClocksOut : Prop :=
  ∀ (n : Nat) (s : State), PortLaw s.port →
    let left := s.port.response.drop s.port.readPosition
    exec (.readTransfer n) s = .next
      { s with port :=
          match s.port.state with
          | .idle => { s.port with miso := List.replicate n 0xFF }
          | .working => { s.port with miso := List.replicate n 0x00 }
          | .receiving => s.port
          | .responding =>
            if n < left.length then { s.port with readPosition := s.port.readPosition + n, miso := left.take n }
            else { state := .idle, receiving := [], response := [], readPosition := 0,
                   miso := left ++ List.replicate (n - left.length) 0xFF } }

/-! ## Configuration -/

/-- Configure Line is refused with DENIED outside Supply Hold, and with BAD_ARG for an argument out of range or slots
that clash; a refused request changes no state (R10). -/
def Obligations.ConfigureLineRefused : Prop :=
  ∀ (line colour slotA slotB profile : Byte) (reserve : BitVec 32) (s : State), s.takesRequests →
    (s.supplyHold = false →
      exec (.configureLine line colour slotA slotB profile reserve) s = .next (s.answered 15 .denied [])
      ∧ exec (.unconfigureLine line) s = .next (s.answered 7 .denied []))
    ∧ (s.supplyHold = true → 12 ≤ line.toNat → exec (.unconfigureLine line) s = .next (s.answered 7 .badArg []))
    ∧ (s.supplyHold = true →
        (12 ≤ line.toNat ∨ 16 ≤ colour.toNat ∨ 16 ≤ slotA.toNat ∨ (16 ≤ slotB.toNat ∧ slotB ≠ 0xFF)
          ∨ 16 ≤ profile.toNat ∨ slotB = slotA
          ∨ ∃ m : LineId, m.val ≠ line.toNat ∧ (s.line m).configured = true
              ∧ ∃ i : SlotId, (i.val = slotA.toNat ∨ i.val = slotB.toNat) ∧ (s.line m).names i = true) →
        exec (.configureLine line colour slotA slotB profile reserve) s = .next (s.answered 15 .badArg []))

/-- An accepted Configure Line writes the line record with its grant CLOSED, releases and places slots, rejects the
line's cartridges whose colour is another, and marks its channels. Beyond that only the line's re-evaluation acts: on its
own two slots, their needs and the events, and on the history only where a rejection writes it (R6, R7, R10 to R12, R44).
The order of the two slots in the recheck is the model's choice (log entry 14). -/
def Obligations.ConfigureLineApplied : Prop :=
  ∀ (l : LineId) (c : BitVec 4) (a : SlotId) (b : Option SlotId) (p : ProfileId) (reserve : BitVec 32) (s : State),
    s.takesRequests → s.supplyHold = true → b ≠ some a → HistoryLaw s.history →
    (∀ m : LineId, m ≠ l → (s.line m).configured = true →
      (s.line m).names a = false ∧ ∀ x, b = some x → (s.line m).names x = false) →
    ∃ t, exec (.configureLine (argByte l.val) (c.setWidth 8) (argByte a.val) (optionByte b) (argByte p.val) reserve) s
          = .next t
      ∧ t.port = answeredPort 15 (if 20000000 < reserve.toNat then .clamped else .ok) []
      ∧ (t.line l).configured = true ∧ (t.line l).colour = c ∧ (t.line l).slotA = a ∧ (t.line l).slotB = b
      ∧ (t.line l).defaultProfile = p ∧ (t.line l).reserve = min reserve.toNat 20000000
      ∧ (t.line l).reserveRemaining = (t.line l).reserve ∧ (t.line l).residue = 0 ∧ (t.line l).grant = .closed
      ∧ ((t.line l).active = .b → b ≠ none)
      ∧ (if (s.line l).configured then
           (t.line l).dropsS = (s.line l).dropsS ∧ (t.line l).dropsM = (s.line l).dropsM
           ∧ (t.line l).dropsL = (s.line l).dropsL ∧ (t.line l).orphan = (s.line l).orphan
           ∧ (t.line l).closedFire = (s.line l).closedFire
         else (t.line l).dropsS = 0 ∧ (t.line l).dropsM = 0 ∧ (t.line l).dropsL = 0 ∧ (t.line l).orphan = 0
           ∧ (t.line l).closedFire = 0)
      ∧ ((∀ i : SlotId, (i = a ∨ b = some i) → (t.slot i).primed = (s.slot i).primed) →
          (t.line l).debited = if (s.line l).configured then (s.line l).debited else 0)
      ∧ (∀ i : SlotId, (i = a ∨ b = some i) →
          (t.slot i).role = (t.line l).roleOf i
          ∧ (if misplacedBy s a b c i then
               RejectedAs t i .misplaced (s.slot i).identity none
               ∧ (t.slot i).agrees
                   { s.slot i with line := some l, state := .rejected, rejectReason := some .misplaced,
                                   provenance := none, tracking := .untracked }
               ∧ t.probe i = { s.probe i with measuring := false, timer := none, inFlight := none }
             else
               (t.slot i).agrees { s.slot i with line := some l } ∧ t.probe i = s.probe i
               ∧ (t.needSet i).identify = (s.needSet i).identify ∧ (t.needSet i).challenge = (s.needSet i).challenge
               ∧ ((s.needSet i).commit = true → (t.needSet i).commit = true)
               ∧ ((s.needSet i).markDepleted = true → (t.needSet i).markDepleted = true)))
      ∧ (∀ i : SlotId, i ≠ a → b ≠ some i →
          t.slot i = (if (s.slot i).line = some l then { s.slot i with line := none, role := .none } else s.slot i)
          ∧ t.needSet i = s.needSet i ∧ t.probe i = s.probe i)
      ∧ (∃ h : List HistoryEntry,
          HistoryWrittenIf (misplacedBy s a b c a && (s.slot a).provenance.isSome) s { s with history := h } a
            { s.slot a with line := some l }
          ∧ (match b with
             | none => t.history = h
             | some i =>
               HistoryWrittenIf (misplacedBy s a b c i && (s.slot i).provenance.isSome) { s with history := h } t i
                 { s.slot i with line := some l }))
      ∧ t.bus.inFlight.map (fun r => ({ r with renewed := false } : Transaction))
          = s.bus.inFlight.map
              (fun r => ({ r with renewed := false, void := r.void || misplacedBy s a b c r.slot } : Transaction))
      ∧ { t.bus with inFlight := s.bus.inFlight } = s.bus
      ∧ Raises s t (((a :: b.toList).filter (misplacedBy s a b c)).map (fun i => .slot .rejected i))
          (configureNews l a b)
      ∧ (∀ k : LinkId, { t.link k with grantPending := (s.link k).grantPending } = s.link k
          ∧ ∀ ch : ChannelId, (t.link k).grantPending[ch.val]
              = ((s.link k).grantPending[ch.val] || ((s.link k).up && s.mapEntry k ch == some l)))
      ∧ (∀ m : LineId, m ≠ l → t.line m = s.line m)
      ∧ t = { s with slots := t.slots, probes := t.probes, needs := t.needs, bus := t.bus, history := t.history,
                     lines := t.lines, links := t.links, events := t.events, port := t.port }

/-- Unconfiguring a line releases its slots, sets its map entries to none and marks their channels, keeps its settings
and totals, and Read Line reports them with configured no; unconfiguring an unconfigured line changes nothing (R13). -/
def Obligations.UnconfigureLineReleases : Prop :=
  ∀ (l : LineId) (s : State), s.takesRequests → s.supplyHold = true → PlacementLaw s →
    ((s.line l).configured = false →
      exec (.unconfigureLine (argByte l.val)) s = .next (s.answered 7 .ok []))
    ∧ ((s.line l).configured = true →
      ∃ t, exec (.unconfigureLine (argByte l.val)) s = .next t
        ∧ t.line l = { s.line l with configured := false, grant := .closed, reserveRemaining := 0, residue := 0 }
        ∧ (∀ m : LineId, m ≠ l → t.line m = s.line m)
        ∧ (∀ i : SlotId, t.slot i =
            if (s.line l).names i then { s.slot i with line := none, role := .none } else s.slot i)
        ∧ (∀ k : LinkId, { t.link k with grantPending := (s.link k).grantPending } = s.link k
            ∧ ∀ c : ChannelId,
                t.mapEntry k c = (if s.mapEntry k c = some l then none else s.mapEntry k c)
                ∧ (t.link k).grantPending[c.val]
                    = ((s.link k).grantPending[c.val] || ((s.link k).up && s.mapEntry k c == some l)))
        ∧ t = { s with slots := t.slots, lines := t.lines, maps := t.maps, links := t.links,
                       port := answeredPort 7 .ok [] }
        ∧ (s.freeze = none →
            exec (.readLine (argByte l.val)) t = .next (t.answered 7 .ok (0x00 :: lineReply (liveSnapshot t) l))
            ∧ (lineReply (liveSnapshot t) l).take 11 =
                [0x00, (s.line l).colour.setWidth 8, argByte (s.line l).slotA.val]
                  ++ (match (s.line l).slotB with | none => [0x00, 0x00] | some b => [0x01, argByte b.val])
                  ++ [(match (s.line l).active with | .a => 0x00 | .b => 0x01), argByte (s.line l).defaultProfile.val]
                  ++ bytesOf 4 (s.line l).reserve))

/-- Map Channels is refused with DENIED outside Supply Hold and with BAD_ARG for its five faults; an accepted request
writes the listed targets and marks each channel whose entry changes (R15). -/
def Obligations.MapChannelsWritesEntries : Prop :=
  ∀ (link : Byte) (entries : List (Byte × Byte)) (s : State), s.takesRequests → 1 + 2 * entries.length ≤ 64 →
    let refused := 2 ≤ link.toNat ∨ entries = [] ∨ 12 < entries.length
      ∨ (∃ e ∈ entries, 12 ≤ e.1.toNat ∨ (12 ≤ e.2.toNat ∧ e.2 ≠ 0xFF))
      ∨ ¬ (entries.map Prod.fst).Nodup
      ∨ (∃ e ∈ entries, ∃ m : LineId, e.2 = argByte m.val ∧ (s.line m).configured = false)
    let bytes := 6 + (1 + 2 * entries.length)
    (s.supplyHold = false → exec (.mapChannels link entries) s = .next (s.answered bytes .denied []))
    ∧ (s.supplyHold = true → refused → exec (.mapChannels link entries) s = .next (s.answered bytes .badArg []))
    ∧ (s.supplyHold = true → ¬ refused →
        ∃ t, exec (.mapChannels link entries) s = .next t
          ∧ (∀ k : LinkId, { t.link k with grantPending := (s.link k).grantPending } = s.link k
              ∧ ∀ c : ChannelId,
                  (t.mapEntry k c).map Fin.val
                    = (match if link = argByte k.val then entries.find? (fun e => e.1 == argByte c.val) else none with
                       | some e => if e.2 = 0xFF then none else some e.2.toNat
                       | none => (s.mapEntry k c).map Fin.val)
                  ∧ (t.link k).grantPending[c.val]
                      = ((s.link k).grantPending[c.val] || ((s.link k).up && t.mapEntry k c != s.mapEntry k c)))
          ∧ t = { s with maps := t.maps, links := t.links, port := answeredPort bytes .ok [] })

/-- Load Profile is refused with BAD_ARG for its three faults; accepted, it writes one entry whole, its floor, prime and
threshold clamped, and every TRACKED READY slot is evaluated again: its phase becomes the more severe of its own and the
computed phase (R118 to R120, R140). -/
def Obligations.LoadProfileWritesEntry : Prop :=
  ∀ (profile : Byte) (vs vm vl : BitVec 16) (floor prime : BitVec 32) (sense : Byte) (threshold : BitVec 16)
    (s : State), s.takesRequests →
    let c : Instr := .loadProfile profile vs vm vl floor prime sense threshold
    ((16 ≤ profile.toNat ∨ (sense ≠ 0x00 ∧ sense ≠ 0x01) ∨ (vs = 0 ∧ vm = 0 ∧ vl = 0)) →
      exec c s = .next (s.answered 24 .badArg []))
    ∧ (∀ p : ProfileId, profile = argByte p.val → (sense = 0x00 ∨ sense = 0x01) →
        ¬ (vs = 0 ∧ vm = 0 ∧ vl = 0) →
        ∃ t, exec c s = .next t
          ∧ t.port = answeredPort 24
              (if 100000000 < floor.toNat ∨ 10000000 < prime.toNat ∨ threshold.toNat < 50 ∨ 4000 < threshold.toNat
               then .clamped else .ok) []
          ∧ t.profile p = some
              { vs := vs.toNat, vm := vm.toNat, vl := vl.toNat, emptyFloor := min floor.toNat 100000000,
                prime := min prime.toNat 10000000,
                probeSense := if sense = 0x00 then .longIsWet else .longIsDry,
                probeThreshold := max 50 (min threshold.toNat 4000) }
          ∧ (∀ q : ProfileId, q ≠ p → t.profile q = s.profile q)
          ∧ (∀ i : SlotId, (t.slot i).state = .ready → (t.slot i).tracking = .tracked →
              (computedPhase t (t.slot i)).severity ≤ ((t.slot i).phase.getD .normal).severity)
          ∧ ((∀ i : SlotId, CounterLaw (s.slot i)) → ∀ i : SlotId, (t.slot i).phase = phaseAfter s t i)
          ∧ (PlacementLaw s → ∀ i : SlotId, (t.slot i).agrees (s.slot i))
          ∧ (∀ l : LineId, (t.line l).agrees (s.line l))
          ∧ t = { s with profiles := t.profiles, slots := t.slots, needs := t.needs, bus := t.bus, lines := t.lines,
                         links := t.links, events := t.events, port := t.port })

/-- Set Temperature Factors writes all eight factors, each clamped into 768 to 1,279. Set Thresholds writes both
thresholds and the probe period, brought into range in the order of R137, and evaluates every TRACKED READY slot, whose
phase becomes the more severe of its own and the computed phase; no running probe timer changes (R67, R121, R136, R137,
R140). -/
def Obligations.FactorsAndThresholds : Prop :=
  ∀ (k : Vector (BitVec 16) 8) (low critical period : BitVec 16) (s : State), s.takesRequests →
    (∃ t, exec (.setTemperatureFactors k) s = .next t
      ∧ (∀ b : Band, t.factor b = max 768 (min k[b.val].toNat 1279))
      ∧ t = { s with
          factors := t.factors,
          port := answeredPort 22
            (if ∃ b : Band, k[b.val].toNat < 768 ∨ 1279 < k[b.val].toNat then .clamped else .ok) [] })
    ∧ (∃ t, exec (.setThresholds low critical period) s = .next t
      ∧ t.thresholds.low = max 1 (min low.toNat 500)
      ∧ t.thresholds.critical = min (min critical.toNat 499) (t.thresholds.low - 1)
      ∧ t.probePeriod = max 100 (min period.toNat 5000)
      ∧ t.port = answeredPort 12
          (if t.thresholds.low = low.toNat ∧ t.thresholds.critical = critical.toNat ∧ t.probePeriod = period.toNat
           then .ok else .clamped) []
      ∧ (∀ i : SlotId, (t.slot i).state = .ready → (t.slot i).tracking = .tracked →
          (computedPhase t (t.slot i)).severity ≤ ((t.slot i).phase.getD .normal).severity)
      ∧ ((∀ i : SlotId, CounterLaw (s.slot i)) → ∀ i : SlotId, (t.slot i).phase = phaseAfter s t i)
      ∧ (PlacementLaw s → ∀ i : SlotId, (t.slot i).agrees (s.slot i))
      ∧ (∀ l : LineId, (t.line l).agrees (s.line l))
      ∧ t = { s with thresholds := t.thresholds, probePeriod := t.probePeriod, slots := t.slots, needs := t.needs,
                     bus := t.bus, lines := t.lines, links := t.links, events := t.events, port := t.port })

/-- Set Policy writes every setting, clamped; outside Supply Hold a timer whose period differs starts again from the
full new period. Afterwards no READY slot holds a verdict the policy does not accept, and one whose verdict it accepts
stands as it was. A slot REJECTED with NOT_ACCEPTED is judged again: key, serial, colour, and then the policy, under which
an accepted one becomes READY and seeded. GENUINE slots and slots in other states keep their state and verdict (R19, R50,
R53 to R55, R62, R159). The mark that a running timer has been restarted is the model's own (log entry 8). -/
def Obligations.SetPolicyReapplies : Prop :=
  ∀ (refilled foreign trust : Byte) (reauth : BitVec 32) (quantum : Byte) (commit : BitVec 16) (s : State),
    s.takesRequests →
    ∃ t, exec (.setPolicy refilled foreign trust reauth quantum commit) s = .next t
      ∧ t.policy =
          { acceptRefilled := refilled != 0, acceptForeign := foreign != 0, probeTrust := trust != 0,
            reauthPeriod := if reauth.toNat = 0 then 0 else max 10 (min reauth.toNat 86400),
            commitQuantum := max 1 (min quantum.toNat 50), commitPeriod := max 1 (min commit.toNat 600) }
      ∧ t.port = answeredPort 16
          (if t.policy.reauthPeriod = reauth.toNat ∧ t.policy.commitQuantum = quantum.toNat
              ∧ t.policy.commitPeriod = commit.toNat
           then .ok else .clamped) []
      ∧ t.bus.commitTimer =
          (if s.supplyHold = true ∨ t.policy.commitPeriod = s.policy.commitPeriod then s.bus.commitTimer
           else some { left := t.policy.commitPeriod * 1000, restarted := s.bus.commitTimer.isSome })
      ∧ t.auth =
          (if s.supplyHold = true ∨ t.policy.reauthPeriod = s.policy.reauthPeriod then s.auth
           else { s.auth with
             reauthTimer :=
               if t.policy.reauthPeriod = 0 then none
               else some { left := t.policy.reauthPeriod * 1000, restarted := s.auth.reauthTimer.isSome } })
      ∧ (∀ i : SlotId, (t.slot i).state = .ready → ∀ p, (t.slot i).provenance = some p → accepted t.policy p = true)
      ∧ (∀ i : SlotId,
          ¬ ((s.slot i).state = .ready ∧ (s.slot i).provenance ≠ some .genuine) →
          ¬ ((s.slot i).state = .rejected ∧ (s.slot i).rejectReason = some .notAccepted) →
          (t.slot i).state = (s.slot i).state ∧ (t.slot i).provenance = (s.slot i).provenance
          ∧ (t.slot i).identity = (s.slot i).identity)
      ∧ (PlacementLaw s → ∀ i : SlotId, (s.slot i).state = .ready → ∀ p, (s.slot i).provenance = some p →
          if accepted t.policy p then (t.slot i).agrees (s.slot i)
          else RejectedAs t i .notAccepted (s.slot i).identity (some p))
      ∧ (PlacementLaw s → HistoryLaw s.history → ∀ i : SlotId, (s.slot i).state = .rejected →
          (s.slot i).rejectReason = some .notAccepted → ∀ id, (s.slot i).identity = some id → ∀ p,
          (s.slot i).provenance = some p →
          let q := rejudgedVerdict s id p
          let stays := (t.slot i).agrees
            { s.slot i with
              provenance := some q, tracking := if q = p then (s.slot i).tracking else .untracked }
          let otherColour := (s.slot i).line.any (fun l => (s.line l).colour != id.colour)
          (q ≠ p → .slot .foreignWarning i ∈ t.events.pending)
          ∧ ((∃ j : SlotId, j ≠ i ∧ (s.slot j).identity.map Identity.serial = some id.serial
                ∧ ((s.slot j).state = .probing ∨ ((s.slot j).state = .ready ∧ (t.slot j).state = .ready))) → stays)
          ∧ (accepted t.policy q = false → otherColour = false → stays)
          ∧ (SerialFree s i id.serial →
              (otherColour = true → RejectedAs t i .misplaced (some id) none)
              ∧ (otherColour = false → accepted t.policy q = true →
                  (t.slot i).provenance = some q ∧ ((t.slot i).tracking = .tracked ↔ q = .genuine)
                  ∧ SeededRecord s t i id (s.slot i).committedMarks
                  ∧ (∃ e ∈ t.history, e.serial = id.serial ∧ e.lastSlot = i)
                  ∧ t.probe i = { s.probe i with measuring := true, timer := some s.probePeriod })))
      ∧ t = { s with policy := t.policy, slots := t.slots, probes := t.probes, needs := t.needs, bus := t.bus,
                     auth := t.auth, history := t.history, lines := t.lines, links := t.links, events := t.events,
                     port := t.port }

/-- Enter Supply Hold closes every grant, stops both timers and asks every READY GENUINE slot with a whole unclaimed
mark to be committed. Leave Supply Hold starts both timers from a full period, gives every configured line the grant its
slots and reserve give, and marks every mapped channel. Each is answered OK and changes nothing where it does not take
effect (R16, R17, R151, R161). The mark of a restarted timer, which both start without, is the model's own (log entry 8). -/
def Obligations.SupplyHoldEntersAndLeaves : Prop :=
  ∀ (s : State), s.takesRequests →
    (s.supplyHold = true → exec .enterSupplyHold s = .next (s.answered 6 .ok []))
    ∧ (s.supplyHold = false → exec .leaveSupplyHold s = .next (s.answered 6 .ok []))
    ∧ (s.supplyHold = false → (∀ i : SlotId, CounterLaw (s.slot i)) →
        ∃ t, exec .enterSupplyHold s = .next t ∧ t.supplyHold = true
          ∧ (∀ l : LineId, (s.line l).configured = true → (t.line l).grant = .closed
              ∧ ((s.line l).grant ≠ .closed → .line .lineClosed l ∈ t.events.pending))
          ∧ t.bus.commitTimer = none ∧ t.auth = { s.auth with reauthTimer := none }
          ∧ (∀ i : SlotId, (s.slot i).readyGenuine = true → 100000 ≤ unclaimed s i → (t.needSet i).commit = true)
          ∧ (∀ i : SlotId, (t.slot i).state = (s.slot i).state ∧ (t.slot i).provenance = (s.slot i).provenance)
          ∧ t = { s with supplyHold := true, slots := t.slots, needs := t.needs, bus := t.bus, auth := t.auth,
                         lines := t.lines, links := t.links, events := t.events, port := answeredPort 6 .ok [] })
    ∧ (s.supplyHold = true → PlacementLaw s →
        ∃ t, exec .leaveSupplyHold s = .next t ∧ t.supplyHold = false
          ∧ (∀ l : LineId, (s.line l).configured = true →
              (t.line l).grant =
                (if (t.slot (t.line l).activeSlot).state = .ready then
                   if (t.slot (t.line l).activeSlot).phase ≠ some .empty then .opened
                   else if 0 < (t.line l).reserveRemaining then .reserve else .closed
                 else .closed))
          ∧ t.bus.commitTimer = some { left := s.policy.commitPeriod * 1000, restarted := false }
          ∧ t.auth = { s.auth with
              reauthTimer :=
                if s.policy.reauthPeriod = 0 then none
                else some { left := s.policy.reauthPeriod * 1000, restarted := false } }
          ∧ (∀ k : LinkId, (s.link k).up = true → ∀ c : ChannelId, ∀ l, s.mapEntry k c = some l →
              (s.line l).configured = true → (t.link k).grantPending[c.val] = true)
          ∧ (∀ i : SlotId, (t.slot i).agrees (s.slot i))
          ∧ t = { s with supplyHold := false, slots := t.slots, needs := t.needs, bus := t.bus, auth := t.auth,
                         lines := t.lines, links := t.links, events := t.events, port := answeredPort 6 .ok [] })

/-! ## The slots and the keys -/

/-- Commit Now adds COMMIT to each named slot that is READY and GENUINE, marking a commit in flight to one that already
holds it renewed, and passes over every other slot (R29, R160). -/
def Obligations.CommitNowAddsCommits : Prop :=
  ∀ (slots : BitVec 16) (s : State), s.takesRequests →
    let named : SlotId → Bool := fun i =>
      slots.getLsbD i.val && (s.slot i).state == .ready && (s.slot i).provenance == some .genuine
    ∃ t, exec (.commitNow slots) s = .next t
      ∧ (∀ i : SlotId, t.needSet i = if named i then { s.needSet i with commit := true } else s.needSet i)
      ∧ t.bus = { s.bus with
          inFlight := s.bus.inFlight.map (fun r =>
            if named r.slot ∧ r.need = .commit ∧ (s.needSet r.slot).commit = true then { r with renewed := true }
            else r) }
      ∧ t = { s with needs := t.needs, bus := t.bus, port := answeredPort 8 .ok [] }

/-- Retry Slot is refused for a slot out of range, with BAD_ARG, and for one neither REJECTED nor FAULT, with DENIED;
otherwise the slot's history is captured, its cartridge fields take their initial values in IDENTIFYING, IDENTIFY is
added, its measurement restarts, and no INSERTED is raised (R63). -/
def Obligations.RetrySlotStartsAfresh : Prop :=
  ∀ (b : Byte) (s : State), s.takesRequests →
    (16 ≤ b.toNat → exec (.retrySlot b) s = .next (s.answered 7 .badArg []))
    ∧ (∀ i : SlotId, b = argByte i.val → (s.slot i).state ≠ .rejected → (s.slot i).state ≠ .fault →
        exec (.retrySlot b) s = .next (s.answered 7 .denied []))
    ∧ (∀ i : SlotId, b = argByte i.val → ((s.slot i).state = .rejected ∨ (s.slot i).state = .fault) →
        PlacementLaw s → HistoryLaw s.history → NeedLaw (s.slot i) (s.needSet i) →
        ∃ t, exec (.retrySlot b) s = .next t
          ∧ HistoryWritten s t i (s.slot i) ∧ EmptiedTo s t i .identifying
          ∧ t.needSet i = { NeedSet.empty with identify := true }
          ∧ t.probe i = { measuring := true, timer := some s.probePeriod, inFlight := some .excitation,
                          lastResult := none, runKind := none, runCount := 0 }
          ∧ (∀ j : SlotId, j ≠ i → t.probe j = s.probe j)
          ∧ Raises s t [] (lineNews s i) ∧ OnlyItsLine s t i ∧ BusKept s t
          ∧ t = { s with slots := t.slots, probes := t.probes, needs := t.needs, bus := t.bus, history := t.history,
                         lines := t.lines, links := t.links, events := t.events, port := answeredPort 7 .ok [] })

/-- Load Key programs a BLANK key slot for 20 ms with its mark set and the port WORKING, and refuses every other; when
the programming ends the key slot is LOADED, its mark cleared, and the request is answered OK (R59, R173). That a
KEY_PROGRAMMING_DONE with no key slot being programmed changes nothing is the model's choice (log entry 8). -/
def Obligations.LoadKeyPrograms : Prop :=
  ∀ (b : Byte) (key : BitVec 128) (s : State),
    (s.takesRequests →
      (4 ≤ b.toNat → exec (.loadKey b key) s = .next (s.answered 23 .badArg []))
      ∧ (∀ k : KeySlotId, b = argByte k.val →
          ((s.keySlot k).state ≠ .blank → exec (.loadKey b key) s = .next (s.answered 23 .denied []))
          ∧ ((s.keySlot k).state = .blank →
              exec (.loadKey b key) s = .next
                { s with
                  auth := { s.auth with
                    keys := s.auth.keys.set k.val { state := .blank, interrupted := true },
                    programming := some { keySlot := k, key := key, timer := 20 } },
                  port := { state := .working, receiving := [], response := [], readPosition := 0,
                            miso := List.replicate 23 0x00 } })))
    ∧ (s.inReset = false →
        (s.auth.programming = none → exec .keyProgrammingDone s = .next s)
        ∧ (∀ p, s.auth.programming = some p →
            exec .keyProgrammingDone s = .next
              { s with
                auth := { s.auth with
                  keys := s.auth.keys.set p.keySlot.val { state := .loaded p.key, interrupted := false },
                  programming := none },
                port := { s.port with state := .responding,
                                      response := responseFrame { status := .ok, payload := [] },
                                      readPosition := 0 } }))

/-- Revoke Key makes the key slot REVOKED and converts every slot in VERIFYING, PROBING or READY that names it. One not
yet verified becomes FOREIGN: with cause DUPLICATE and REJECTED where another slot in PROBING or READY holds its serial,
and otherwise with KEY_UNAVAILABLE, READY and seeded exactly where the policy accepts that and REJECTED with NOT_ACCEPTED
where it does not. A READY one keeps a FOREIGN provenance and its cause, or changes to FOREIGN with KEY_UNAVAILABLE, and
stays READY exactly where the policy accepts that. Every other slot stands but for the feeding of its line (R37, R50, R53,
R54, R57, R58, R60, R61). That a repeated revocation converts a slot that has come to VERIFYING since the first is the
model's choice (log entry 19), and so is the one re-evaluation of the line after the policy (log entry 20). -/
def Obligations.RevokeKeyConverts : Prop :=
  ∀ (b : Byte) (s : State), s.takesRequests →
    (4 ≤ b.toNat → exec (.revokeKey b) s = .next (s.answered 7 .badArg []))
    ∧ (∀ k : KeySlotId, b = argByte k.val → (∀ i : SlotId, SlotLaw (s.slot i)) → PlacementLaw s →
        HistoryLaw s.history →
        ∃ t, exec (.revokeKey b) s = .next t
          ∧ t.keySlot k = { s.keySlot k with state := .revoked } ∧ (∀ j : KeySlotId, j ≠ k → t.keySlot j = s.keySlot j)
          ∧ (∀ i : SlotId, ∀ id, (s.slot i).identity = some id → id.keyIndex = k →
              ((s.slot i).state = .verifying ∨ (s.slot i).state = .probing → RevokedUnjudged s t i id)
              ∧ ((s.slot i).state = .ready → ∀ p, (s.slot i).provenance = some p → RevokedReady s t i id p))
          ∧ (∀ i : SlotId, revocationConverts s k i = false →
              (t.slot i).agrees (s.slot i) ∧ t.probe i = s.probe i
              ∧ (t.needSet i).identify = (s.needSet i).identify ∧ (t.needSet i).challenge = (s.needSet i).challenge
              ∧ ((s.needSet i).commit = true → (t.needSet i).commit = true)
              ∧ ((s.needSet i).markDepleted = true → (t.needSet i).markDepleted = true)
              ∧ ((s.slot i).line.any (revocationMeets s k) = false →
                  t.slot i = s.slot i ∧ t.needSet i = s.needSet i))
          ∧ (∀ l : LineId, (t.line l).agrees (s.line l) ∧ (revocationMeets s k l = false → t.line l = s.line l))
          ∧ (∀ c : LinkId, { t.link c with grantPending := (s.link c).grantPending } = s.link c)
          ∧ { t.bus with inFlight := s.bus.inFlight } = s.bus
          ∧ t.bus.inFlight.map (fun r => ({ r with renewed := false } : Transaction))
              = s.bus.inFlight.map (fun r => ({ r with
                  renewed := false,
                  void := r.void || (revocationConverts s k r.slot &&
                    ((t.slot r.slot).state != .ready
                     || ((s.slot r.slot).provenance.any (fun p => !p.isForeign)
                         && (r.need == .commit || r.need == .markDepleted)))) } : Transaction))
          ∧ Raises s t [] (revocationNews s k)
          ∧ t = { s with auth := { s.auth with keys := t.auth.keys }, slots := t.slots, probes := t.probes,
                         needs := t.needs, bus := t.bus, history := t.history, lines := t.lines, links := t.links,
                         events := t.events, port := answeredPort 7 .ok [] })

/-! ## Presence -/

/-- A presence line's level is recorded; where it changes and the part operates, the qualification timer starts from
50 ms if the level now disagrees with the settled presence and stops if it agrees (R41). While the part is held in reset
the level is recorded and the timer stays as it is, which is the model's reading (log entry 6, DEDUCED); that a
PRESENCE_CHANGE to the level that already stands changes nothing is its choice (log entry 8). -/
def Obligations.PresenceLineQualifies : Prop :=
  ∀ (i : SlotId) (level : Bool) (s : State),
    ((s.socket i).asserted = level → exec (.presenceChange i level) s = .next s)
    ∧ ((s.socket i).asserted ≠ level →
        ∃ t, exec (.presenceChange i level) s = .next t
          ∧ t.socket i =
              { asserted := level, settled := (s.socket i).settled,
                timer := if s.inReset then (s.socket i).timer
                  else if level = decide ((s.socket i).settled = .present) then none else some 50 }
          ∧ (∀ j : SlotId, j ≠ i → t.socket j = s.socket j)
          ∧ t = { s with sockets := t.sockets })

/-- An insertion takes a VACANT slot to IDENTIFYING with its initial fields, adds IDENTIFY, begins measuring at once and
raises INSERTED; beyond the slot, only its line's re-evaluation acts (R41, R42, R66). -/
def Obligations.InsertionOpensIdentification : Prop :=
  ∀ (i : SlotId) (s : State), s.inReset = false → (s.socket i).timer.isSome = true → (s.socket i).asserted = true →
    (s.socket i).settled = .absent → (s.slot i).state = .vacant → PlacementLaw s → s.needSet i = NeedSet.empty →
    ∃ t, exec (.insertion i) s = .next t
      ∧ EmptiedTo s t i .identifying
      ∧ t.needSet i = { NeedSet.empty with identify := true }
      ∧ t.probe i = { measuring := true, timer := some s.probePeriod, inFlight := some .excitation,
                      lastResult := none, runKind := none, runCount := 0 }
      ∧ t.socket i = { asserted := true, settled := .present, timer := none }
      ∧ (∀ j : SlotId, j ≠ i → t.probe j = s.probe j ∧ t.socket j = s.socket j)
      ∧ Raises s t [.slot .inserted i] (lineNews s i) ∧ OnlyItsLine s t i ∧ BusKept s t
      ∧ t = { s with slots := t.slots, sockets := t.sockets, probes := t.probes, needs := t.needs, bus := t.bus,
                     lines := t.lines, links := t.links, events := t.events }

/-- A removal captures the slot's history, empties its needs, voids a transaction to it, discards its measurement, makes
it VACANT with its placement kept, and raises REMOVED; beyond the slot, only its line's re-evaluation acts (R3, R37, R38,
R43, R74, R78, R79). -/
def Obligations.RemovalTearsDown : Prop :=
  ∀ (i : SlotId) (s : State), s.inReset = false → (s.socket i).timer.isSome = true → (s.socket i).asserted = false →
    (s.socket i).settled = .present → (s.slot i).state ≠ .vacant → PlacementLaw s → HistoryLaw s.history →
    ∃ t, exec (.removal i) s = .next t
      ∧ HistoryWritten s t i (s.slot i) ∧ EmptiedTo s t i .vacant ∧ t.needSet i = NeedSet.empty
      ∧ t.probe i = ProbeUnit.initial
      ∧ t.socket i = { asserted := false, settled := .absent, timer := none }
      ∧ (∀ j : SlotId, j ≠ i → t.probe j = s.probe j ∧ t.socket j = s.socket j)
      ∧ t.bus.inFlight.map (fun r => ({ r with renewed := false } : Transaction))
          = s.bus.inFlight.map (fun r => ({ r with renewed := false, void := r.void || r.slot == i } : Transaction))
      ∧ { t.bus with inFlight := s.bus.inFlight } = s.bus
      ∧ Raises s t [.slot .removed i] (lineNews s i) ∧ OnlyItsLine s t i
      ∧ t = { s with slots := t.slots, sockets := t.sockets, probes := t.probes, needs := t.needs, bus := t.bus,
                     history := t.history, lines := t.lines, links := t.links, events := t.events }

/-! ## The Cartridge Bus -/

/-- A selection serves the best class and, in it, the first slot after the last-served one: the transaction starts for
its next need with a payload built now. A COMMIT with no whole mark is dropped and the selection made again; with no need
held nothing starts. A retry starts the same need of the same slot without a selection; where its need has gone, or its
COMMIT is dropped, a selection is made instead (R30 to R32, R34, R46, R47, R164). That both come whatever remains of the
quiet interval is the model's choice (log entries 8 and 12), and so is the numbering of the words drawn from entropy (log
entry 1). -/
def Obligations.SelectionAndRetry : Prop :=
  ∀ (i : SlotId) (x : Need) (s : State), s.inReset = false → s.bus.inFlight = none →
    ((∀ r, s.bus.retryFor = some r → (s.needSet r.1).has r.2 = false) →
      ((∀ j : SlotId, (s.needSet j).next = none) →
        exec .selection s = .next { s with bus := { s.bus with retryFor := none } })
      ∧ (ToBeServed s i x → ¬ CommitEmpty s i x → exec .selection s = .next (s.started i x i))
      ∧ (ToBeServed s i x → CommitEmpty s i x →
          exec .selection s = exec .selection
            { s with
              needs := s.needs.set i.val { s.needSet i with commit := false },
              bus := { s.bus with lastServed := i, retryFor := none } }))
    ∧ (s.bus.retryFor = some (i, x) → (s.needSet i).has x = true →
        (¬ CommitEmpty s i x → exec .retry s = .next (s.started i x s.bus.lastServed))
        ∧ (CommitEmpty s i x →
            exec .retry s = exec .selection
              { s with
                needs := s.needs.set i.val { s.needSet i with commit := false },
                bus := { s.bus with retryFor := none } }))
    ∧ (s.bus.retryFor = some (i, x) → (s.needSet i).has x = false → exec .retry s = exec .selection s)

/-- The timeout runs from the end of the command frame, 15 ms for CHALLENGE and 10 ms for the others. A void transaction
is discarded at its end: bus failures becomes 0 where the response is complete and keeps its value where it is not. A
transaction with a wrong echo ends with its timeout: until then nothing it receives counts, and one that has become void
meanwhile is not retried (R20, R24, R37). That VOID_TRANSACTION_END may name the end of such a void one too is the model's
reading (log entry 11, DEDUCED), and that a completion row for a void transaction acts as its end with a complete
response is its choice (log entry 13). -/
def Obligations.FrameEndAndVoidEnd : Prop :=
  ∀ (s : State) (p : RecordPayload) (marks value : BitVec 16) (depleted : Byte) (tag : BitVec 64) (bytes : List Byte),
    s.inReset = false →
    (∀ r, s.bus.inFlight = some r → s.bus.driving ≠ none →
      exec .commandFrameEnd s = .next
        { s with bus := { s.bus with driving := none, timeout := some (if r.need = .challenge then 15 else 10) } })
    ∧ (∀ r, Listening s r → r.void = true → r.payload.suits r.need →
        exec (.voidTransactionEnd false) s = .next { s with bus := endedBus s.bus }
        ∧ (let cleared : State :=
             { s with
               bus := endedBus s.bus, slots := s.slots.set r.slot.val { s.slot r.slot with busFailures := 0 } }
           exec (.voidTransactionEnd true) s = .next cleared
           ∧ exec (match r.need with
               | .identify => .readRecordCompletion p
               | .challenge => .challengeCompletion marks depleted tag
               | .commit => .advanceMarksCompletion value
               | .markDepleted => .markDepletedCompletion) s = .next cleared))
    ∧ (∀ r, s.bus.inFlight = some r → s.bus.ignoring = true →
        exec .transactionTimeout s = .next { s with bus := echoEnded s.bus r }
        ∧ exec (.voidTransactionEnd false) s = .next (if r.void then { s with bus := echoEnded s.bus r } else s)
        ∧ exec (.voidTransactionEnd true) s = .next s ∧ exec (.transactionFailure bytes) s = .next s
        ∧ exec (.readRecordCompletion p) s = .next s ∧ exec (.challengeCompletion marks depleted tag) s = .next s
        ∧ exec (.advanceMarksCompletion value) s = .next s ∧ exec .markDepletedCompletion s = .next s)

/-- A complete READ RECORD for a slot in IDENTIFYING is checked for range, colour and profile, in that order: the first
check that fails rejects the slot with its reason, and a record that passes takes it to VERIFYING with its identity, its
provisional marks and depleted mark, and CHALLENGE added (R23, R33, R44, R45, R52). -/
def Obligations.RecordIdentifiesSlot : Prop :=
  ∀ (p : RecordPayload) (s : State), ∀ r, Listening s r → r.void = false → r.need = .identify →
    (s.slot r.slot).state = .identifying → FieldLaw (s.slot r.slot) → PlacementLaw s →
    ∃ t, exec (.readRecordCompletion p) s = .next t
      ∧ t.bus = endedBus s.bus ∧ (t.slot r.slot).busFailures = 0
      ∧ (if p.fill.toNat < 10000 ∨ 2000000 < p.fill.toNat ∨ 4 ≤ p.keyIndex.toNat then
           RejectedAs t r.slot .badRecord none none
         else
           let id : Identity :=
             { serial := p.serial, colour := p.colour, profile := Fin.ofNat 16 p.profile.toNat,
               fill := p.fill.toNat, keyIndex := Fin.ofNat 4 p.keyIndex.toNat }
           if (s.slot r.slot).line.any (fun l => (s.line l).colour != p.colour) then
             RejectedAs t r.slot .misplaced (some id) none
           else if s.profile id.profile = none then RejectedAs t r.slot .unknownProfile (some id) none
           else
             t.slot r.slot =
               { s.slot r.slot with
                 state := .verifying, identity := some id, committedMarks := min p.marks.toNat 42949,
                 depleted := p.depleted != 0, busFailures := 0, role := (t.slot r.slot).role }
             ∧ t.needSet r.slot =
                 { s.needSet r.slot with
                   identify := (s.needSet r.slot).identify && r.renewed, challenge := true }
             ∧ t.probe r.slot = s.probe r.slot)
      ∧ Raises s t [] (slotNews s r.slot) ∧ OnlyItsLine s t r.slot
      ∧ (∀ j : SlotId, j ≠ r.slot → t.probe j = s.probe j)
      ∧ t = { s with slots := t.slots, probes := t.probes, needs := t.needs, bus := t.bus, lines := t.lines,
                     links := t.links, events := t.events }

/-- A complete CHALLENGE for a slot in VERIFYING forms the most severe verdict of its evidence: DUPLICATE first, then key
unavailable, tag mismatch, REWOUND against the History Table, the probe for a depleted mark, and GENUINE. A duplicate is
rejected, the probe goes to PROBING, and any other verdict is put to the policy and, where accepted, seeded (R48 to R54,
R68). -/
def Obligations.ChallengeFormsVerdict : Prop :=
  ∀ (marks : BitVec 16) (depleted : Byte) (tag : BitVec 64) (s : State), ∀ r, Listening s r → r.void = false →
    r.need = .challenge → ∀ id, (s.slot r.slot).identity = some id → (s.slot r.slot).state = .verifying →
    FieldLaw (s.slot r.slot) → PlacementLaw s → HistoryLaw s.history → r.payload.suits .challenge →
    ∃ t, exec (.challengeCompletion marks depleted tag) s = .next t
      ∧ t.bus = endedBus s.bus ∧ (t.slot r.slot).busFailures = 0
      ∧ (let loaded := (s.keySlot id.keyIndex).state ≠ .blank ∧ (s.keySlot id.keyIndex).state ≠ .revoked
         let sent : BitVec 64 := match r.payload with | .challenge v => v | _ => 0
         let rewound := ∃ e ∈ s.history, e.serial = id.serial ∧ marks.toNat < e.committedMarks
         let judged : Provenance → Prop := fun p =>
           PutToPolicy s t r.slot p
           ∧ ((t.slot r.slot).state = .ready → SeededReady s t r.slot id marks.toNat
                ∧ (t.slot r.slot).depleted = (depleted != 0))
         if serialElsewhere s r.slot id.serial then
           RejectedAs t r.slot .duplicate (some id) (some (.foreign .duplicate))
           ∧ .slot .foreignWarning r.slot ∈ t.events.pending
         else if ¬ loaded then
           judged (.foreign .keyUnavailable) ∧ .slot .foreignWarning r.slot ∈ t.events.pending
         else if ¬ tagMatches s id sent marks depleted tag then
           judged (.foreign .tagMismatch) ∧ .slot .foreignWarning r.slot ∈ t.events.pending
         else if rewound then judged .rewound ∧ .slot .rewindWarning r.slot ∈ t.events.pending
         else if depleted ≠ 0 then
           t.slot r.slot =
             { s.slot r.slot with
               state := .probing, phase := some .untracked, committedMarks := min marks.toNat 42949,
               depleted := true, busFailures := 0, role := (t.slot r.slot).role }
           ∧ t.probe r.slot = { s.probe r.slot with timer := some 20, runKind := none, runCount := 0 }
           ∧ t.history = s.history
         else judged .genuine)
      ∧ Raises s t [] (slotNews s r.slot) ∧ OnlyItsLine s t r.slot
      ∧ (∀ j : SlotId, j ≠ r.slot → t.probe j = s.probe j)
      ∧ t = { s with slots := t.slots, probes := t.probes, needs := t.needs, bus := t.bus, history := t.history,
                     lines := t.lines, links := t.links, events := t.events }

/-- A complete CHALLENGE for a READY slot: its provenance takes the more severe of its own and the evidence, and a
changed one is put to the policy; a matching tag has higher marks and a depleted mark adopted, and a mismatch or a missing
key has neither (R51, R56, R57, R143). -/
def Obligations.ChallengeJudgesReadySlot : Prop :=
  ∀ (marks : BitVec 16) (depleted : Byte) (tag : BitVec 64) (s : State), ∀ r, Listening s r → r.void = false →
    r.need = .challenge → ∀ id, (s.slot r.slot).identity = some id → (s.slot r.slot).state = .ready →
    ∀ old, (s.slot r.slot).provenance = some old → SlotLaw (s.slot r.slot) → PlacementLaw s →
    r.payload.suits .challenge →
    ∃ t, exec (.challengeCompletion marks depleted tag) s = .next t
      ∧ t.bus = endedBus s.bus ∧ (t.slot r.slot).busFailures = 0
      ∧ (let loaded := (s.keySlot id.keyIndex).state ≠ .blank ∧ (s.keySlot id.keyIndex).state ≠ .revoked
         let sent : BitVec 64 := match r.payload with | .challenge v => v | _ => 0
         let match' : Prop := tagMatches s id sent marks depleted tag = true
         let before := s.slot r.slot
         let after := t.slot r.slot
         let evidence : Provenance :=
           if ¬ loaded then .foreign .keyUnavailable
           else if ¬ tagMatches s id sent marks depleted tag then .foreign .tagMismatch
           else if marks.toNat < before.committedMarks then .rewound else .genuine
         (if old.severity < evidence.severity then PutToPolicy s t r.slot evidence
          else after.provenance = some old ∧ after.state = .ready)
         ∧ (if tagMatches s id sent marks depleted tag = true ∧ before.committedMarks < marks.toNat then
              after.committedMarks = min marks.toNat 42949 ∧ min marks.toNat 42949 * 100000 ≤ after.consumed
            else after.committedMarks = before.committedMarks)
         ∧ before.consumed ≤ after.consumed
         ∧ (after.primed = before.primed → ¬ (match' ∧ before.committedMarks < marks.toNat) →
              after.consumed = before.consumed)
         ∧ after.depleted = (before.depleted || (tagMatches s id sent marks depleted tag && depleted != 0))
         ∧ (match' → depleted ≠ 0 → before.depleted = false → after.state = .ready → after.phase = some .empty))
      ∧ Raises s t [] (slotNews s r.slot) ∧ OnlyItsLine s t r.slot
      ∧ (∀ j : SlotId, j ≠ r.slot → t.probe j = s.probe j)
      ∧ t = { s with slots := t.slots, probes := t.probes, needs := t.needs, bus := t.bus, lines := t.lines,
                     links := t.links, events := t.events }

/-- A complete ADVANCE MARKS returns v against the expected e: fewer makes the slot REWOUND with consumed kept, equal
takes v, and more takes v and raises consumed to its volume; COMMIT is added again at a whole quantum, and the history is
written (R52, R57, R80, R165, R166). -/
def Obligations.AdvanceMarksCompletes : Prop :=
  ∀ (v : BitVec 16) (s : State), ∀ r, Listening s r → r.void = false → r.need = .commit →
    ∀ n, r.payload = .count n → (s.slot r.slot).readyGenuine = true → SlotLaw (s.slot r.slot) → PlacementLaw s →
    HistoryLaw s.history →
    ∃ t, exec (.advanceMarksCompletion v) s = .next t
      ∧ t.bus = endedBus s.bus ∧ (t.slot r.slot).busFailures = 0
      ∧ (let before := s.slot r.slot
         let after := t.slot r.slot
         let held := min v.toNat 42949
         let expected := before.committedMarks + n
         if v.toNat < expected then
           PutToPolicy s t r.slot .rewound ∧ after.committedMarks = max before.committedMarks held
           ∧ before.consumed ≤ after.consumed ∧ (after.primed = before.primed → after.consumed = before.consumed)
           ∧ (t.needSet r.slot).commit = false ∧ (t.needSet r.slot).markDepleted = false
           ∧ .slot .rewindWarning r.slot ∈ t.events.pending
         else if v.toNat = expected then
           after = { before with committedMarks := held, busFailures := 0 }
           ∧ t.needSet r.slot =
               { s.needSet r.slot with
                 commit := ((s.needSet r.slot).commit && r.renewed)
                   || decide (s.policy.commitQuantum * 100000 ≤ before.consumed - held * 100000) }
           ∧ t.events = s.events ∧ t.lines = s.lines ∧ t.links = s.links
         else
           after.provenance = some .genuine ∧ after.state = .ready ∧ after.committedMarks = held
           ∧ max before.consumed (held * 100000) ≤ after.consumed
           ∧ (after.primed = before.primed → after.consumed = max before.consumed (held * 100000))
           ∧ (s.policy.commitQuantum * 100000 ≤ after.consumed - held * 100000 → (t.needSet r.slot).commit = true))
      ∧ HistoryWritten s t r.slot (t.slot r.slot)
      ∧ Raises s t [] (slotNews s r.slot) ∧ OnlyItsLine s t r.slot
      ∧ (∀ j : SlotId, j ≠ r.slot → t.probe j = s.probe j)
      ∧ t = { s with slots := t.slots, probes := t.probes, needs := t.needs, bus := t.bus, history := t.history,
                     lines := t.lines, links := t.links, events := t.events }

/-- A MARK DEPLETED that succeeds sets the slot's depleted field and writes its history; no phase is evaluated and no
event raised (R33, R80, R167). -/
def Obligations.MarkDepletedSets : Prop :=
  ∀ (s : State), ∀ r, Listening s r → r.void = false → r.need = .markDepleted → HistoryLaw s.history →
    ∃ t, exec .markDepletedCompletion s = .next t
      ∧ t.slot r.slot = { s.slot r.slot with depleted := true, busFailures := 0 }
      ∧ (∀ j : SlotId, j ≠ r.slot → t.slot j = s.slot j ∧ t.needSet j = s.needSet j)
      ∧ t.needSet r.slot =
          { s.needSet r.slot with markDepleted := (s.needSet r.slot).markDepleted && r.renewed }
      ∧ HistoryWritten s t r.slot (t.slot r.slot)
      ∧ ((s.slot r.slot).readyGenuine = true → (s.slot r.slot).seeded = true →
          ∀ e, t.history.head? = some e → (s.slot r.slot).identity ≠ none → e.depleted = true)
      ∧ t = { s with slots := t.slots, needs := t.needs, history := t.history, bus := endedBus s.bus }

/-- A failure, by TRANSACTION_FAILURE or TRANSACTION_TIMEOUT, counts only while the presence line is asserted and the
transaction is not void: below the third it is retried, and the third takes the slot to FAULT with BUS_FAULT, its needs
emptied, its measuring stopped and its history captured; beyond the slot only its line's re-evaluation acts. A failure not
counted changes the bus alone. A wrong echo leaves its transaction in flight to the end of its timeout, and every other
failure ends it (R20, R28, R34 to R38). That the third failure, taken at a wrong echo, voids the transaction still in
flight is the model's reading (log entry 11, DEDUCED). -/
def Obligations.FailureCountsToFault : Prop :=
  ∀ (c : Instr) (s : State), ∀ r, Listening s r → ∀ bus, failureBus c s r = some bus →
    ((r.void = true ∨ (s.socket r.slot).asserted = false) → exec c s = .next { s with bus := bus })
    ∧ (r.void = false → (s.socket r.slot).asserted = true → (s.slot r.slot).busFailures < 2 →
        exec c s = .next
          { s with
            bus := { bus with retryFor := some (r.slot, r.need) },
            slots := s.slots.set r.slot.val
              { s.slot r.slot with busFailures := (s.slot r.slot).busFailures + 1 } })
    ∧ (r.void = false → (s.socket r.slot).asserted = true → (s.slot r.slot).busFailures = 2 → PlacementLaw s →
        HistoryLaw s.history → (s.slot r.slot).state ≠ .vacant →
        ∃ t, exec c s = .next t
          ∧ t.bus = { bus with inFlight := bus.inFlight.map (fun r => ({ r with void := true } : Transaction)) }
          ∧ t.slot r.slot =
              { s.slot r.slot with
                state := .fault, phase := none, busFailures := 3, role := (t.slot r.slot).role }
          ∧ t.needSet r.slot = NeedSet.empty
          ∧ t.probe r.slot = { s.probe r.slot with measuring := false, timer := none, inFlight := none }
          ∧ (∀ j : SlotId, j ≠ r.slot → t.probe j = s.probe j)
          ∧ HistoryWritten s t r.slot (s.slot r.slot)
          ∧ Raises s t [.slot .busFault r.slot] (lineNews s r.slot) ∧ OnlyItsLine s t r.slot
          ∧ t = { s with slots := t.slots, probes := t.probes, needs := t.needs, bus := t.bus, history := t.history,
                         lines := t.lines, links := t.links, events := t.events })

/-- At its expiry the re-authentication timer adds CHALLENGE to every READY GENUINE slot, and the commit timer adds
COMMIT to every one with a whole unclaimed mark; a need already held has its transaction in flight renewed. Each starts
again from its full period. A timer that is stopped does not expire, and after a Set Policy that restarted one the expiry
it overtook does not happen (R29, R55, R157, R159). Until when an expiry counts as overtaken is the model's choice (log
entry 8). -/
def Obligations.PeriodicTimersAddNeeds : Prop :=
  ∀ (s : State), s.inReset = false →
    (s.auth.reauthTimer = none → exec .reauthenticationTimerExpiry s = .next s)
    ∧ (s.bus.commitTimer = none → exec .commitTimerExpiry s = .next s)
    ∧ (∀ r, s.auth.reauthTimer = some r → r.restarted = true → 0 < r.left →
        exec .reauthenticationTimerExpiry s = .next s)
    ∧ (∀ r, s.bus.commitTimer = some r → r.restarted = true → 0 < r.left → exec .commitTimerExpiry s = .next s)
    ∧ (∀ r, s.auth.reauthTimer = some r → (r.restarted = false ∨ r.left = 0) →
        ∃ t, exec .reauthenticationTimerExpiry s = .next t
          ∧ (∀ i : SlotId, t.needSet i =
              if (s.slot i).readyGenuine then { s.needSet i with challenge := true } else s.needSet i)
          ∧ t.bus = { s.bus with
              inFlight := s.bus.inFlight.map (fun r =>
                if (s.slot r.slot).readyGenuine = true ∧ r.need = .challenge ∧ (s.needSet r.slot).challenge = true
                then { r with renewed := true } else r) }
          ∧ t = { s with
              needs := t.needs, bus := t.bus,
              auth := { s.auth with
                reauthTimer :=
                  if s.policy.reauthPeriod = 0 then none
                  else some { left := s.policy.reauthPeriod * 1000, restarted := false } } })
    ∧ (∀ r, s.bus.commitTimer = some r → (r.restarted = false ∨ r.left = 0) →
        ∃ t, exec .commitTimerExpiry s = .next t
          ∧ (∀ i : SlotId, t.needSet i =
              if (s.slot i).readyGenuine = true ∧ 100000 ≤ unclaimed s i then { s.needSet i with commit := true }
              else s.needSet i)
          ∧ t.bus = { s.bus with
              commitTimer := some { left := s.policy.commitPeriod * 1000, restarted := false },
              inFlight := s.bus.inFlight.map (fun r =>
                if ((s.slot r.slot).readyGenuine = true ∧ 100000 ≤ unclaimed s r.slot) ∧ r.need = .commit
                    ∧ (s.needSet r.slot).commit = true
                then { r with renewed := true } else r) }
          ∧ t = { s with needs := t.needs, bus := t.bus })

/-! ## The probes -/

/-- A measurement starts at each expiry of a measured slot's probe timer, which restarts from the slot's interval: 20 ms
in PROBING and the probe period elsewhere. The end of the excitation opens the return window, where the low period begins
at once if the pin is low and at the first low moment otherwise (R67, R69). That a PROBE_TIMER_EXPIRY inside a
measurement, for which R67 leaves no room, starts it afresh is the model's choice (log entry 15). -/
def Obligations.MeasurementPhases : Prop :=
  ∀ (i : SlotId) (low : Bool) (s : State), s.inReset = false →
    ((s.probe i).timer ≠ none →
      exec (.probeTimerExpiry i) s = .next
        { s with
          probes := s.probes.set i.val
            { s.probe i with
              inFlight := some .excitation,
              timer := some (if (s.slot i).state = .probing then 20 else s.probePeriod) } })
    ∧ ((s.probe i).inFlight = some .excitation →
        exec (.excitationEnd i low) s = .next
          { s with
            probes := s.probes.set i.val
              { s.probe i with inFlight := some (if low then .lowPeriod else .window) } })
    ∧ ((s.probe i).inFlight = some .window →
        exec (.lowPeriodBegin i) s = .next
          { s with probes := s.probes.set i.val { s.probe i with inFlight := some .lowPeriod } })

/-- A measurement that ends, by PROBE_RETURN_END or RETURN_WINDOW_CLOSE, in IDENTIFYING is UNJUDGED and leaves the run;
one that ends in VERIFYING, PROBING or READY is judged against the slot's profile and enters the run, which a result of
another kind starts again at 1. A run that reaches 3 in VERIFYING settles the probe state there, with PROBE_FAULT where it
has become FAULT; a result that does not take the run from 2 to 3 settles nothing (R69 to R73). -/
def Obligations.MeasurementEnters : Prop :=
  ∀ (c : Instr) (s : State), s.inReset = false → ∀ m, endedMeasurement c s = some m →
    ((s.slot m.1).state = .identifying →
      exec c s = .next
        { s with
          probes := s.probes.set m.1.val
            { s.probe m.1 with inFlight := none, lastResult := some (.unjudged m.2) } })
    ∧ (∀ id, (s.slot m.1).identity = some id → ∀ p, s.profile id.profile = some p →
        ((s.slot m.1).state = .verifying ∨ (s.slot m.1).state = .probing ∨ (s.slot m.1).state = .ready) →
        let kind := resultOf p m.2
        let same := (s.probe m.1).runKind = some kind
        let run : ProbeUnit :=
          { s.probe m.1 with
            inFlight := none, lastResult := some (.judged kind m.2), runKind := some kind,
            runCount := if same then min 3 ((s.probe m.1).runCount + 1) else 1 }
        (¬ (same ∧ (s.probe m.1).runCount = 2) →
          exec c s = .next { s with probes := s.probes.set m.1.val run })
        ∧ (same → (s.probe m.1).runCount = 2 → (s.slot m.1).state = .verifying →
            ∃ t, exec c s = .next t
              ∧ Raises s t
                  (if kind = .noReturn ∧ (s.slot m.1).probeState ≠ .fault then [.slot .probeFault m.1] else [])
                  nothingElse
              ∧ t = { s with
                  probes := s.probes.set m.1.val run,
                  slots := s.slots.set m.1.val { s.slot m.1 with probeState := settledState kind },
                  events := t.events }))

/-- A settlement in PROBING resolves the slot: WET gives REFILLED, put to the policy; DRY and FAULT give GENUINE, READY at
phase EMPTY with depleted yes, and FAULT raises PROBE_FAULT. A slot that becomes READY is seeded. A transaction in flight
goes on: one to the slot itself is a void one, which an old identification left (R37, R54, R73, R84 to R87, R141). -/
def Obligations.ProbeResolvesSlot : Prop :=
  ∀ (c : Instr) (s : State), s.inReset = false → ∀ m, endedMeasurement c s = some m →
    ∀ id, (s.slot m.1).identity = some id → ∀ p, s.profile id.profile = some p →
    (s.slot m.1).state = .probing → SlotLaw (s.slot m.1) → PlacementLaw s → HistoryLaw s.history →
    (∀ r, s.bus.inFlight = some r → r.slot = m.1 → r.void = true) →
    (s.probe m.1).runKind = some (resultOf p m.2) → (s.probe m.1).runCount = 2 →
    ∃ t, exec c s = .next t
      ∧ (t.slot m.1).probeState = settledState (resultOf p m.2)
      ∧ (resultOf p m.2 = .wet →
          PutToPolicy s t m.1 .refilled ∧ .slot .refillWarning m.1 ∈ t.events.pending
          ∧ (t.slot m.1).depleted = (s.slot m.1).depleted
          ∧ ((t.slot m.1).state = .ready → (t.slot m.1).phase = some .untracked))
      ∧ (resultOf p m.2 ≠ .wet →
          PutToPolicy s t m.1 .genuine ∧ (t.slot m.1).depleted = true ∧ (t.slot m.1).phase = some .empty
          ∧ (t.slot m.1).earlyDry = (s.slot m.1).earlyDry ∧ .slot .levelEmpty m.1 ∈ t.events.pending)
      ∧ (resultOf p m.2 = .noReturn → .slot .probeFault m.1 ∈ t.events.pending)
      ∧ ((t.slot m.1).state = .ready →
          SeededReady s t m.1 id (s.slot m.1).committedMarks
          ∧ t.probe m.1 =
              { s.probe m.1 with
                inFlight := none, lastResult := some (.judged (resultOf p m.2) m.2), runCount := 3,
                timer := some s.probePeriod })
      ∧ Raises s t [] (slotNews s m.1) ∧ OnlyItsLine s t m.1 ∧ BusKept s t
      ∧ (∀ j : SlotId, j ≠ m.1 → t.probe j = s.probe j)
      ∧ t = { s with slots := t.slots, probes := t.probes, needs := t.needs, bus := t.bus, history := t.history,
                     lines := t.lines, links := t.links, events := t.events }

/-- A settlement to a READY slot: for a TRACKED one, DRY at NORMAL or LOW raises PROBE_DISAGREE, and DRY short of EMPTY
under probe trust sets early dry and makes the phase EMPTY; WET and FAULT leave its phase. An UNTRACKED one becomes EMPTY
at DRY or FAULT (R73, R91, R142, R144, R162). -/
def Obligations.SettlementReachesReadySlot : Prop :=
  ∀ (c : Instr) (s : State), s.inReset = false → ∀ m, endedMeasurement c s = some m →
    ∀ id, (s.slot m.1).identity = some id → ∀ p, s.profile id.profile = some p →
    (s.slot m.1).state = .ready → SlotLaw (s.slot m.1) → PlacementLaw s →
    (s.probe m.1).runKind = some (resultOf p m.2) → (s.probe m.1).runCount = 2 →
    ∃ t, exec c s = .next t
      ∧ (let before := s.slot m.1
         let after := t.slot m.1
         let settled := settledState (resultOf p m.2)
         let disagrees := before.tracking = .tracked ∧ settled = .dry
           ∧ (before.phase = some .normal ∨ before.phase = some .low)
         let driedEarly := before.tracking = .tracked ∧ settled = .dry ∧ before.phase ≠ some .empty
           ∧ s.policy.probeTrust = true
         let ends := before.tracking = .untracked ∧ (settled = .dry ∨ settled = .fault)
         after.probeState = settled ∧ after.state = .ready ∧ after.provenance = before.provenance
         ∧ after.earlyDry = (before.earlyDry || decide driedEarly)
         ∧ (driedEarly ∨ ends → after.phase = some .empty)
         ∧ (¬ driedEarly → ¬ ends → after = { before with probeState := settled })
         ∧ (driedEarly → (t.needSet m.1).commit = true ∧ (t.needSet m.1).markDepleted = true)
         ∧ Raises s t
             ((if disagrees then [.slot .probeDisagree m.1] else [])
              ++ (if settled = .fault ∧ before.probeState ≠ .fault then [.slot .probeFault m.1] else [])
              ++ (if (driedEarly ∨ ends) ∧ before.phase ≠ some .empty then [.slot .levelEmpty m.1] else []))
             (fun e => (e == .slot .levelLow m.1 && decide (before.phase = some .normal))
               || (e == .slot .levelCritical m.1
                   && decide (before.phase = some .normal ∨ before.phase = some .low))
               || lineNews s m.1 e))
      ∧ OnlyItsLine s t m.1 ∧ BusKept s t
      ∧ (∀ j : SlotId, j ≠ m.1 → t.probe j = s.probe j)
      ∧ t = { s with slots := t.slots, probes := t.probes, needs := t.needs, bus := t.bus, lines := t.lines,
                     links := t.links, events := t.events }

/-! ## The Engine Links and accounting -/

/-- A link comes UP as LINK_EN becomes asserted: band 4 and all twelve channels pending, no event. It goes DOWN as LINK_EN
becomes deasserted: an open assembly is closed as partial, the frame in transmission and the pending set go, and LINK_DOWN
is raised; FIFO, accumulators, HOLD and totals go on (R96, R97). While the part is held in reset the level of LINK_EN is
recorded and nothing else happens, which is the model's reading (log entry 6, DEDUCED). -/
def Obligations.LinkComesUpAndGoesDown : Prop :=
  ∀ (k : LinkId) (s : State),
    (s.inReset = true →
      exec (.linkUp k) s = .next { s with links := s.links.set k.val { s.link k with linkEn := true } }
      ∧ exec (.linkDown k) s = .next { s with links := s.links.set k.val { s.link k with linkEn := false } })
    ∧ (s.inReset = false → (s.link k).fifo.length ≤ 16 →
    ((s.link k).up = false →
      exec (.linkUp k) s = .next
        { s with
          links := s.links.set k.val
            { s.link k with linkEn := true, up := true, band := 4, grantPending := Vector.replicate 12 true } }
      ∧ exec (.linkDown k) s = .next { s with links := s.links.set k.val { s.link k with linkEn := false } })
    ∧ ((s.link k).up = true →
      exec (.linkUp k) s = .next { s with links := s.links.set k.val { s.link k with linkEn := true } }
      ∧ ∃ t, exec (.linkDown k) s = .next t
          ∧ TakenIn { s.link k with linkEn := false, up := false, assembly := none, grantFrame := none,
                                    grantPending := Vector.replicate 12 false }
              (t.link k) (partialReport (s.link k))
          ∧ (∀ j : LinkId, j ≠ k → t.link j = s.link j)
          ∧ Raises s t
              (.link .linkDown k ::
                if 16 < (s.link k).fifo.length + (partialReport (s.link k)).length then [.link .intakeOverflow k]
                else []) nothingElse
          ∧ t = { s with links := t.links, events := t.events }))

/-- A COUNT frame (COUNT_S, COUNT_M, COUNT_L) on a link that is UP adds its count to the accepted total of its size and
opens, extends or completes an assembly; one that cannot extend the open assembly closes it as partial with LINK_ORDER
first. Reports enter the FIFO while it has room and the accumulators, with INTAKE_OVERFLOW, when it has none (R99, R100,
R102 to R104, R106, R109). -/
def Obligations.CountFramesFormReports : Prop :=
  ∀ (x : DropSize) (k : LinkId) (c : ChannelId) (n : BitVec 16) (s : State), s.inReset = false →
    (s.link k).up = true → (s.link k).fifo.length ≤ 16 → LinkRanges (s.link k) →
    ∃ t, exec (countCommand x k c n) s = .next t
      ∧ TakenIn
          { s.link k with
            assembly := assemblyAfter (s.link k) x c n.toNat,
            accepted := match x with
              | .s => { (s.link k).accepted with s := min 281474976710655 ((s.link k).accepted.s + n.toNat) }
              | .m => { (s.link k).accepted with m := min 281474976710655 ((s.link k).accepted.m + n.toNat) }
              | .l => { (s.link k).accepted with l := min 281474976710655 ((s.link k).accepted.l + n.toNat) } }
          (t.link k) (reportsFormed (s.link k) x c n.toNat)
      ∧ (∀ j : LinkId, j ≠ k → t.link j = s.link j)
      ∧ Raises s t
          ((if OutOfOrder (s.link k).assembly x c then [.link .linkOrder k] else [])
            ++ (if 16 < (s.link k).fifo.length + (reportsFormed (s.link k) x c n.toNat).length then
                  [.link .intakeOverflow k] else [])) nothingElse
      ∧ t = { s with links := t.links, events := t.events }

/-- On a link that is UP: BAND sets the band, a value above 7 being taken as 7; QUERY makes all twelve channels pending;
SYNC closes an open assembly as partial, without LINK_ORDER, and does nothing where none is open; a bad frame adds one to
the error count and raises LINK_ERROR (R94, R98, R101, R115). -/
def Obligations.OtherFramesAct : Prop :=
  ∀ (k : LinkId) (value : Byte) (bytes : List Byte) (s : State), s.inReset = false → (s.link k).up = true →
    (s.link k).fifo.length ≤ 16 →
    exec (.band k value) s = .next
      { s with links := s.links.set k.val { s.link k with band := Fin.ofNat 8 (min value.toNat 7) } }
    ∧ exec (.query k) s = .next
        { s with links := s.links.set k.val { s.link k with grantPending := Vector.replicate 12 true } }
    ∧ (∃ t, exec (.sync k) s = .next t
        ∧ TakenIn { s.link k with assembly := none } (t.link k) (partialReport (s.link k))
        ∧ (∀ j : LinkId, j ≠ k → t.link j = s.link j)
        ∧ Raises s t
            (if 16 < (s.link k).fifo.length + (partialReport (s.link k)).length then [.link .intakeOverflow k]
             else []) nothingElse
        ∧ t = { s with links := t.links, events := t.events })
    ∧ (frameIsBad bytes = true →
        ∃ t, exec (.badFrame k bytes) s = .next t
          ∧ Raises s t [.link .linkError k] nothingElse
          ∧ t = { s with
              links := s.links.set k.val
                { s.link k with errorCount := min 4294967295 ((s.link k).errorCount + 1) },
              events := t.events })

/-- Bytes make a bad frame when they are not four, when their CRC-8 does not match, when their kind is not one of the six
an engine sends, or when a COUNT frame names a channel 12 to 15. Frames that arrive while a link is DOWN are not acted on
(R93, R94). -/
def Obligations.BadFramesAndDownLinks : Prop :=
  ∀ (c : Instr) (k : LinkId) (bytes : List Byte) (b0 b1 b2 crc : Byte) (s : State), s.inReset = false →
    (bytes.length ≠ 4 → frameIsBad bytes = true)
    ∧ (frameIsBad [b0, b1, b2, crc] = true ↔
        crc ≠ engineCrc [b0, b1, b2] ∨ b0.toNat / 16 = 0 ∨ 7 ≤ b0.toNat / 16
          ∨ (b0.toNat / 16 ≤ 3 ∧ 12 ≤ b0.toNat % 16))
    ∧ (engineLinkOf c = some k → (s.link k).up = false → exec c s = .next s)

/-- While a link is UP and sends no GRANT frame, it begins one for the lowest pending channel, which leaves the set; the
frame carries the line's grant and active slot, or CLOSED with slot 15 for an entry of none. With none pending, or while
one is being sent, nothing begins. At the end of the frame the link is free to send again (R111 to R113). -/
def Obligations.GrantFramesSent : Prop :=
  ∀ (k : LinkId) (c : ChannelId) (s : State), s.inReset = false →
    exec (.grantFrameEnd k) s = .next { s with links := s.links.set k.val { s.link k with grantFrame := none } }
    ∧ (((s.link k).up = false ∨ (s.link k).grantFrame ≠ none
          ∨ ∀ d : ChannelId, (s.link k).grantPending[d.val] = false) → exec (.grant k) s = .next s)
    ∧ ((s.link k).up = true → (s.link k).grantFrame = none → (s.link k).grantPending[c.val] = true →
        (∀ d : ChannelId, d < c → (s.link k).grantPending[d.val] = false) → MapLaw s →
        let body : List Byte :=
          match s.mapEntry k c with
          | none => [argByte (0x80 + c.val), 0x00, 15]
          | some l =>
            [argByte (0x80 + c.val),
             (match (s.line l).grant with | .closed => 0x00 | .reserve => 0x01 | .opened => 0x02),
             argByte (match (s.line l).active, (s.line l).slotB with
               | .b, some b => b.val
               | _, _ => (s.line l).slotA.val)]
        exec (.grant k) s = .next
          { s with
            links := s.links.set k.val
              { s.link k with
                grantPending := (s.link k).grantPending.set c.val false,
                grantFrame := some { channel := c, bytes := body ++ [engineCrc body] } } })

/-- The Accounting Unit takes the head of the arbitrated FIFO, and a full FIFO drains an accumulator. An unmapped report
goes to the link's unmapped totals with UNMAPPED_FIRE. A mapped one adds its drops to the line; its corrected volume and
the residue give the debit. A READY active slot is charged it and the line's debited total grows; without one it is orphan
volume; under a CLOSED grant it is closed-fire too; with no READY slot and no profile entry no volume is charged
(R105 to R107, R122 to R131, R158). -/
def Obligations.ReportIsAccounted : Prop :=
  ∀ (k : LinkId) (r : Report) (rest : List Report) (s : State), s.inReset = false → Arbitrates s k →
    (s.link k).fifo = r :: rest →
    (s.mapEntry k r.channel = none →
      ∃ t, exec .accountReport s = .next t
        ∧ t.link k = { (s.link k).headTaken rest with
            unmapped := { s := min 281474976710655 ((s.link k).unmapped.s + r.ns),
                          m := min 281474976710655 ((s.link k).unmapped.m + r.nm),
                          l := min 281474976710655 ((s.link k).unmapped.l + r.nl) } }
        ∧ (∀ j : LinkId, j ≠ k → t.link j = s.link j)
        ∧ Raises s t [.link .unmappedFire k] nothingElse
        ∧ t = { s with links := t.links, lastServedLink := k, events := t.events })
    ∧ (∀ l, s.mapEntry k r.channel = some l → (s.line l).configured = true →
        let i := (s.line l).activeSlot
        let taken : State := { s with links := s.links.set k.val ((s.link k).headTaken rest), lastServedLink := k }
        ((s.slot i).state ≠ .ready →
          (s.profile (s.line l).defaultProfile = none →
            ∃ t, exec .accountReport s = .next t ∧ Raises s t [.line .orphanInk l] nothingElse
              ∧ t = { taken with lines := s.lines.set l.val (withDrops (s.line l) r), events := t.events })
          ∧ (∀ p, s.profile (s.line l).defaultProfile = some p →
              let total := stageTotal s l p r
              ∃ t, exec .accountReport s = .next t
                ∧ Raises s t
                    (.line .orphanInk l :: if (s.line l).grant = .closed then [.line .fireClosed l] else [])
                    nothingElse
                ∧ t = { taken with
                    lines := s.lines.set l.val
                      { withDrops (s.line l) r with
                        residue := total % 100000, orphan := min 4294967295 ((s.line l).orphan + total / 100000),
                        closedFire := closedFireAfter (s.line l) (total / 100000) },
                    events := t.events }))
        ∧ ((s.slot i).state = .ready → PlacementLaw s →
            ∀ id, (s.slot i).identity = some id → ∀ p, s.profile id.profile = some p →
            let total := stageTotal s l p r
            let debit := total / 100000
            let charged := min 4294967295 ((s.slot i).consumed + debit)
            ∃ t, exec .accountReport s = .next t
              ∧ (t.slot i).state = .ready ∧ (t.slot i).provenance = (s.slot i).provenance
              ∧ (t.slot i).consumed
                  = (if (t.slot i).primed = (s.slot i).primed then charged
                     else min 4294967295 (charged + p.prime))
              ∧ { t.line l with
                    active := (s.line l).active, grant := (s.line l).grant, debited := (s.line l).debited,
                    reserveRemaining := (s.line l).reserveRemaining }
                  = { withDrops (s.line l) r with
                      residue := total % 100000, closedFire := closedFireAfter (s.line l) debit }
              ∧ min 18446744073709551615 ((s.line l).debited + debit) ≤ (t.line l).debited
              ∧ ((t.line l).active = (s.line l).active → .line .switchover l ∉ t.events.pending →
                  (t.line l).reserveRemaining =
                    if (s.line l).grant = .reserve then (s.line l).reserveRemaining - debit
                    else (s.line l).reserveRemaining)
              ∧ ((s.slot i).provenance = some .genuine →
                  s.policy.commitQuantum * 100000
                    ≤ (charged - (s.slot i).committedMarks * 100000) - claimed s i →
                  (t.needSet i).commit = true)
              ∧ Raises s t (if (s.line l).grant = .closed then [.line .fireClosed l] else []) (lineNews s i)
              ∧ (∀ j : SlotId, j ≠ i → (t.slot j).agrees (s.slot j)) ∧ (∀ m : LineId, m ≠ l → t.line m = s.line m)
              ∧ (∀ j : LinkId, { t.link j with grantPending := (s.link j).grantPending } = taken.link j)
              ∧ BusKept s t
              ∧ t = { taken with slots := t.slots, needs := t.needs, bus := t.bus, lines := t.lines, links := t.links,
                                 events := t.events }))

/-! ## Laws that every step keeps -/

/-- ATTN is asserted exactly while an unmasked pair is pending, every reported pair is pending, and both sets stand in
order with no repeats: every step keeps it (R182, R183, R186). -/
def Obligations.EventLawKept : Prop :=
  ∀ (s t : State), EventLaw s.events → step s = .next t → EventLaw t.events

/-- An intake FIFO never holds more than 16 reports, accumulators hold counts only while it holds 16, HOLD follows it, a
link that is DOWN tells nothing, and every total lies in its range: every step keeps it (R97, R103, R104, R106, R109,
R111). -/
def Obligations.LinksLawKept : Prop := ∀ (s t : State), LinksLaw s → step s = .next t → LinksLaw t

/-- Every setting and every field of a line record lies in its range, the residue below one nanolitre and reserve remaining
within the reserve; the History Table holds at most 32 entries and no serial twice: every step keeps each of the two
(R5, R19, R65, R77, R118, R121, R127, R136). -/
def Obligations.RangesAndHistoryLawKept : Prop :=
  ∀ (s t : State), step s = .next t →
    (RangesLaw s → RangesLaw t) ∧ (HistoryLaw s.history → HistoryLaw t.history)

/-- The port is WORKING exactly while a BLANK key slot is programmed, its mark set: every step keeps it. Under it a key
slot never returns to BLANK and a REVOKED key slot never becomes LOADED (R58, R59). -/
def Obligations.KeyLawKept : Prop :=
  ∀ (s t : State), KeyLaw s → step s = .next t →
    KeyLaw t
    ∧ ∀ k : KeySlotId, ((s.keySlot k).state ≠ .blank → (t.keySlot k).state ≠ .blank)
        ∧ ((s.keySlot k).state = .revoked → (t.keySlot k).state = .revoked)

/-- The placement fields follow the line records, no slot is named by two configured lines, and every line's grant is what
its slots, its reserve and Supply Hold give, RESERVE only with no usable other slot: every step keeps it (R7, R10, R148,
R151). -/
def Obligations.PlacementAndGrantKept : Prop :=
  ∀ (s t : State), PlacementLaw s → GrantLaw s → step s = .next t → PlacementLaw t ∧ GrantLaw t

/-- From a state that meets the part's laws every step keeps those of the Slot Table: settled presence against state, the
fields of each state, tracking against GENUINE, seeded marks within consumed, bus failures, one holder of a serial, the
profile and the LOADED key of a cartridge in use, and the history's figures (R1, R2, R35, R41, R50 to R52, R71, R78,
R157). -/
def Obligations.SlotTableLawKept : Prop := ∀ (s t : State), PartLaw s → step s = .next t → SlotTableLaw t

/-- From a state that meets the part's laws every step keeps those of the bus, the probes and the debounce: the needs a
slot may hold, a transaction in flight only for a need its slot's set holds, the wire, measuring exactly in the measured
states, and the qualification timer (R20, R29, R32, R38, R41, R66, R74, R163, R164). -/
def Obligations.SlotWorkLawKept : Prop := ∀ (s t : State), PartLaw s → step s = .next t → SlotWorkLaw t

/-- From a state that meets the part's laws every step keeps those of its modes: in Supply Hold every grant is CLOSED and
both timers stopped, every map entry names a configured line or none, the port holds a response exactly in RESPONDING, and
a part in reset holds its reset values (R13, R15, R18, R171, R187). That no step leaves the port RECEIVING is the model's
choice (log entry 10), and what a part held in reset does is its reading (log entry 6, DEDUCED). -/
def Obligations.ModeLawKept : Prop := ∀ (s t : State), PartLaw s → step s = .next t → ModeLaw t

/-- A READY cartridge that stays READY through a step never goes back: its level phase does not grow less severe, its
verdict keeps or worsens, consumed and committed marks do not fall, and primed, depleted and early dry stay set (R51, R56,
R89, R138, R145). -/
def Obligations.ReadySlotNeverGoesBack : Prop :=
  ∀ (s t : State), PartLaw s → step s = .next t → ∀ i : SlotId,
    (s.slot i).state = .ready → (t.slot i).state = .ready →
    ((s.slot i).tracking = .tracked → (t.slot i).tracking = .tracked →
      ((s.slot i).phase.getD .normal).severity ≤ ((t.slot i).phase.getD .normal).severity)
    ∧ ((s.slot i).phase = some .empty → (t.slot i).phase = some .empty)
    ∧ (∀ p, (s.slot i).provenance = some p → ∀ q, (t.slot i).provenance = some q → p.severity ≤ q.severity)
    ∧ (s.slot i).identity = (t.slot i).identity
    ∧ (s.slot i).consumed ≤ (t.slot i).consumed ∧ (s.slot i).committedMarks ≤ (t.slot i).committedMarks
    ∧ ((s.slot i).primed = true → (t.slot i).primed = true)
    ∧ ((s.slot i).depleted = true → (t.slot i).depleted = true)
    ∧ ((s.slot i).earlyDry = true → (t.slot i).earlyDry = true)

/-- No drop count is lost or made in a link: through every command but the resets, and while no total saturates, what is
in flight afterwards, what was handed to the Accounting Unit and what was lost make up what was in flight before, what had
been lost and what was accepted meanwhile (R104, R105, R109, R110). -/
def Obligations.DropCountsConserved : Prop :=
  ∀ (c : Instr) (k : LinkId) (x : DropSize) (s t : State), c ≠ .powerOn → c ≠ .resetN → exec c s = .next t →
    (t.link k).accepted.of x < 281474976710655 → (t.link k).lost.of x < 281474976710655 →
    (t.link k).inFlightCount x + handedOver c s k x + (t.link k).lost.of x + (s.link k).accepted.of x
      = (s.link k).inFlightCount x + (s.link k).lost.of x + (t.link k).accepted.of x

end
end

