-- ==== Sys2Proof/Laws/State.lean ====
section
/-! SUPPORT. One lemma for each part of the state under each write of Machine/Ops.lean: what the write puts there, or
that it leaves it. -/

namespace Sys2Proof.Machine

/-! ### Running timers -/

@[simp] theorem RunningTimer.start_left (ms : Nat) : (RunningTimer.start ms).left = ms := rfl
@[simp] theorem RunningTimer.start_restarted (ms : Nat) : (RunningTimer.start ms).restarted = false := rfl

@[simp] theorem restartTimer_left (old : Option RunningTimer) (ms : Nat) : (restartTimer old ms).left = ms := rfl
@[simp] theorem restartTimer_restarted (old : Option RunningTimer) (ms : Nat) :
    (restartTimer old ms).restarted = old.isSome := rfl

@[simp] theorem timerExpires_none : timerExpires none = false := rfl
@[simp] theorem timerExpires_start (ms : Nat) : timerExpires (some (RunningTimer.start ms)) = true := rfl

/-- An expiry of a timer that a request has restarted while it ran happens only once its time is up. -/
theorem timerExpires_restartTimer (old : RunningTimer) (ms : Nat) :
    timerExpires (some (restartTimer (some old) ms)) = (ms == 0) := by
  simp [timerExpires]

end Sys2Proof.Machine

namespace Sys2Proof.Machine.State

variable (s : State)

/-! ### setPending -/

@[simp] theorem setPending_pending (w : List Instr) : (s.setPending w).pending = w := rfl
@[simp] theorem setPending_inReset (w : List Instr) : (s.setPending w).inReset = s.inReset := rfl
@[simp] theorem setPending_slots (w : List Instr) : (s.setPending w).slots = s.slots := rfl
@[simp] theorem setPending_sockets (w : List Instr) : (s.setPending w).sockets = s.sockets := rfl
@[simp] theorem setPending_probes (w : List Instr) : (s.setPending w).probes = s.probes := rfl
@[simp] theorem setPending_probePeriod (w : List Instr) : (s.setPending w).probePeriod = s.probePeriod := rfl
@[simp] theorem setPending_needs (w : List Instr) : (s.setPending w).needs = s.needs := rfl
@[simp] theorem setPending_bus (w : List Instr) : (s.setPending w).bus = s.bus := rfl
@[simp] theorem setPending_auth (w : List Instr) : (s.setPending w).auth = s.auth := rfl
@[simp] theorem setPending_history (w : List Instr) : (s.setPending w).history = s.history := rfl
@[simp] theorem setPending_lines (w : List Instr) : (s.setPending w).lines = s.lines := rfl
@[simp] theorem setPending_maps (w : List Instr) : (s.setPending w).maps = s.maps := rfl
@[simp] theorem setPending_supplyHold (w : List Instr) : (s.setPending w).supplyHold = s.supplyHold := rfl
@[simp] theorem setPending_policy (w : List Instr) : (s.setPending w).policy = s.policy := rfl
@[simp] theorem setPending_thresholds (w : List Instr) : (s.setPending w).thresholds = s.thresholds := rfl
@[simp] theorem setPending_profiles (w : List Instr) : (s.setPending w).profiles = s.profiles := rfl
@[simp] theorem setPending_factors (w : List Instr) : (s.setPending w).factors = s.factors := rfl
@[simp] theorem setPending_links (w : List Instr) : (s.setPending w).links = s.links := rfl
@[simp] theorem setPending_lastServedLink (w : List Instr) : (s.setPending w).lastServedLink = s.lastServedLink := rfl
@[simp] theorem setPending_events (w : List Instr) : (s.setPending w).events = s.events := rfl
@[simp] theorem setPending_port (w : List Instr) : (s.setPending w).port = s.port := rfl
@[simp] theorem setPending_freeze (w : List Instr) : (s.setPending w).freeze = s.freeze := rfl
@[simp] theorem setPending_slot (w : List Instr) (j : SlotId) : (s.setPending w).slot j = s.slot j := rfl
@[simp] theorem setPending_socket (w : List Instr) (j : SlotId) : (s.setPending w).socket j = s.socket j := rfl
@[simp] theorem setPending_probe (w : List Instr) (j : SlotId) : (s.setPending w).probe j = s.probe j := rfl
@[simp] theorem setPending_needSet (w : List Instr) (j : SlotId) : (s.setPending w).needSet j = s.needSet j := rfl
@[simp] theorem setPending_line (w : List Instr) (m : LineId) : (s.setPending w).line m = s.line m := rfl
@[simp] theorem setPending_map (w : List Instr) (g : LinkId) : (s.setPending w).map g = s.map g := rfl
@[simp] theorem setPending_mapEntry (w : List Instr) (g : LinkId) (c : ChannelId) : (s.setPending w).mapEntry g c = s.mapEntry g c := rfl
@[simp] theorem setPending_link (w : List Instr) (g : LinkId) : (s.setPending w).link g = s.link g := rfl
@[simp] theorem setPending_profile (w : List Instr) (q : ProfileId) : (s.setPending w).profile q = s.profile q := rfl
@[simp] theorem setPending_factor (w : List Instr) (z : Band) : (s.setPending w).factor z = s.factor z := rfl
@[simp] theorem setPending_keySlot (w : List Instr) (y : KeySlotId) : (s.setPending w).keySlot y = s.keySlot y := rfl

/-! ### setInReset -/

@[simp] theorem setInReset_pending (b : Bool) : (s.setInReset b).pending = s.pending := rfl
@[simp] theorem setInReset_inReset (b : Bool) : (s.setInReset b).inReset = b := rfl
@[simp] theorem setInReset_slots (b : Bool) : (s.setInReset b).slots = s.slots := rfl
@[simp] theorem setInReset_sockets (b : Bool) : (s.setInReset b).sockets = s.sockets := rfl
@[simp] theorem setInReset_probes (b : Bool) : (s.setInReset b).probes = s.probes := rfl
@[simp] theorem setInReset_probePeriod (b : Bool) : (s.setInReset b).probePeriod = s.probePeriod := rfl
@[simp] theorem setInReset_needs (b : Bool) : (s.setInReset b).needs = s.needs := rfl
@[simp] theorem setInReset_bus (b : Bool) : (s.setInReset b).bus = s.bus := rfl
@[simp] theorem setInReset_auth (b : Bool) : (s.setInReset b).auth = s.auth := rfl
@[simp] theorem setInReset_history (b : Bool) : (s.setInReset b).history = s.history := rfl
@[simp] theorem setInReset_lines (b : Bool) : (s.setInReset b).lines = s.lines := rfl
@[simp] theorem setInReset_maps (b : Bool) : (s.setInReset b).maps = s.maps := rfl
@[simp] theorem setInReset_supplyHold (b : Bool) : (s.setInReset b).supplyHold = s.supplyHold := rfl
@[simp] theorem setInReset_policy (b : Bool) : (s.setInReset b).policy = s.policy := rfl
@[simp] theorem setInReset_thresholds (b : Bool) : (s.setInReset b).thresholds = s.thresholds := rfl
@[simp] theorem setInReset_profiles (b : Bool) : (s.setInReset b).profiles = s.profiles := rfl
@[simp] theorem setInReset_factors (b : Bool) : (s.setInReset b).factors = s.factors := rfl
@[simp] theorem setInReset_links (b : Bool) : (s.setInReset b).links = s.links := rfl
@[simp] theorem setInReset_lastServedLink (b : Bool) : (s.setInReset b).lastServedLink = s.lastServedLink := rfl
@[simp] theorem setInReset_events (b : Bool) : (s.setInReset b).events = s.events := rfl
@[simp] theorem setInReset_port (b : Bool) : (s.setInReset b).port = s.port := rfl
@[simp] theorem setInReset_freeze (b : Bool) : (s.setInReset b).freeze = s.freeze := rfl
@[simp] theorem setInReset_slot (b : Bool) (j : SlotId) : (s.setInReset b).slot j = s.slot j := rfl
@[simp] theorem setInReset_socket (b : Bool) (j : SlotId) : (s.setInReset b).socket j = s.socket j := rfl
@[simp] theorem setInReset_probe (b : Bool) (j : SlotId) : (s.setInReset b).probe j = s.probe j := rfl
@[simp] theorem setInReset_needSet (b : Bool) (j : SlotId) : (s.setInReset b).needSet j = s.needSet j := rfl
@[simp] theorem setInReset_line (b : Bool) (m : LineId) : (s.setInReset b).line m = s.line m := rfl
@[simp] theorem setInReset_map (b : Bool) (g : LinkId) : (s.setInReset b).map g = s.map g := rfl
@[simp] theorem setInReset_mapEntry (b : Bool) (g : LinkId) (c : ChannelId) : (s.setInReset b).mapEntry g c = s.mapEntry g c := rfl
@[simp] theorem setInReset_link (b : Bool) (g : LinkId) : (s.setInReset b).link g = s.link g := rfl
@[simp] theorem setInReset_profile (b : Bool) (q : ProfileId) : (s.setInReset b).profile q = s.profile q := rfl
@[simp] theorem setInReset_factor (b : Bool) (z : Band) : (s.setInReset b).factor z = s.factor z := rfl
@[simp] theorem setInReset_keySlot (b : Bool) (y : KeySlotId) : (s.setInReset b).keySlot y = s.keySlot y := rfl

/-! ### setSlot -/

@[simp] theorem setSlot_pending (i : SlotId) (r : SlotRecord) : (s.setSlot i r).pending = s.pending := rfl
@[simp] theorem setSlot_inReset (i : SlotId) (r : SlotRecord) : (s.setSlot i r).inReset = s.inReset := rfl
@[simp] theorem setSlot_slots (i : SlotId) (r : SlotRecord) : (s.setSlot i r).slots = s.slots.set i.val r := rfl
@[simp] theorem setSlot_sockets (i : SlotId) (r : SlotRecord) : (s.setSlot i r).sockets = s.sockets := rfl
@[simp] theorem setSlot_probes (i : SlotId) (r : SlotRecord) : (s.setSlot i r).probes = s.probes := rfl
@[simp] theorem setSlot_probePeriod (i : SlotId) (r : SlotRecord) : (s.setSlot i r).probePeriod = s.probePeriod := rfl
@[simp] theorem setSlot_needs (i : SlotId) (r : SlotRecord) : (s.setSlot i r).needs = s.needs := rfl
@[simp] theorem setSlot_bus (i : SlotId) (r : SlotRecord) : (s.setSlot i r).bus = s.bus := rfl
@[simp] theorem setSlot_auth (i : SlotId) (r : SlotRecord) : (s.setSlot i r).auth = s.auth := rfl
@[simp] theorem setSlot_history (i : SlotId) (r : SlotRecord) : (s.setSlot i r).history = s.history := rfl
@[simp] theorem setSlot_lines (i : SlotId) (r : SlotRecord) : (s.setSlot i r).lines = s.lines := rfl
@[simp] theorem setSlot_maps (i : SlotId) (r : SlotRecord) : (s.setSlot i r).maps = s.maps := rfl
@[simp] theorem setSlot_supplyHold (i : SlotId) (r : SlotRecord) : (s.setSlot i r).supplyHold = s.supplyHold := rfl
@[simp] theorem setSlot_policy (i : SlotId) (r : SlotRecord) : (s.setSlot i r).policy = s.policy := rfl
@[simp] theorem setSlot_thresholds (i : SlotId) (r : SlotRecord) : (s.setSlot i r).thresholds = s.thresholds := rfl
@[simp] theorem setSlot_profiles (i : SlotId) (r : SlotRecord) : (s.setSlot i r).profiles = s.profiles := rfl
@[simp] theorem setSlot_factors (i : SlotId) (r : SlotRecord) : (s.setSlot i r).factors = s.factors := rfl
@[simp] theorem setSlot_links (i : SlotId) (r : SlotRecord) : (s.setSlot i r).links = s.links := rfl
@[simp] theorem setSlot_lastServedLink (i : SlotId) (r : SlotRecord) : (s.setSlot i r).lastServedLink = s.lastServedLink := rfl
@[simp] theorem setSlot_events (i : SlotId) (r : SlotRecord) : (s.setSlot i r).events = s.events := rfl
@[simp] theorem setSlot_port (i : SlotId) (r : SlotRecord) : (s.setSlot i r).port = s.port := rfl
@[simp] theorem setSlot_freeze (i : SlotId) (r : SlotRecord) : (s.setSlot i r).freeze = s.freeze := rfl
@[simp] theorem setSlot_socket (i : SlotId) (r : SlotRecord) (j : SlotId) : (s.setSlot i r).socket j = s.socket j := rfl
@[simp] theorem setSlot_probe (i : SlotId) (r : SlotRecord) (j : SlotId) : (s.setSlot i r).probe j = s.probe j := rfl
@[simp] theorem setSlot_needSet (i : SlotId) (r : SlotRecord) (j : SlotId) : (s.setSlot i r).needSet j = s.needSet j := rfl
@[simp] theorem setSlot_line (i : SlotId) (r : SlotRecord) (m : LineId) : (s.setSlot i r).line m = s.line m := rfl
@[simp] theorem setSlot_map (i : SlotId) (r : SlotRecord) (g : LinkId) : (s.setSlot i r).map g = s.map g := rfl
@[simp] theorem setSlot_mapEntry (i : SlotId) (r : SlotRecord) (g : LinkId) (c : ChannelId) : (s.setSlot i r).mapEntry g c = s.mapEntry g c := rfl
@[simp] theorem setSlot_link (i : SlotId) (r : SlotRecord) (g : LinkId) : (s.setSlot i r).link g = s.link g := rfl
@[simp] theorem setSlot_profile (i : SlotId) (r : SlotRecord) (q : ProfileId) : (s.setSlot i r).profile q = s.profile q := rfl
@[simp] theorem setSlot_factor (i : SlotId) (r : SlotRecord) (z : Band) : (s.setSlot i r).factor z = s.factor z := rfl
@[simp] theorem setSlot_keySlot (i : SlotId) (r : SlotRecord) (y : KeySlotId) : (s.setSlot i r).keySlot y = s.keySlot y := rfl

/-! ### setSocket -/

@[simp] theorem setSocket_pending (i : SlotId) (r : Socket) : (s.setSocket i r).pending = s.pending := rfl
@[simp] theorem setSocket_inReset (i : SlotId) (r : Socket) : (s.setSocket i r).inReset = s.inReset := rfl
@[simp] theorem setSocket_slots (i : SlotId) (r : Socket) : (s.setSocket i r).slots = s.slots := rfl
@[simp] theorem setSocket_sockets (i : SlotId) (r : Socket) : (s.setSocket i r).sockets = s.sockets.set i.val r := rfl
@[simp] theorem setSocket_probes (i : SlotId) (r : Socket) : (s.setSocket i r).probes = s.probes := rfl
@[simp] theorem setSocket_probePeriod (i : SlotId) (r : Socket) : (s.setSocket i r).probePeriod = s.probePeriod := rfl
@[simp] theorem setSocket_needs (i : SlotId) (r : Socket) : (s.setSocket i r).needs = s.needs := rfl
@[simp] theorem setSocket_bus (i : SlotId) (r : Socket) : (s.setSocket i r).bus = s.bus := rfl
@[simp] theorem setSocket_auth (i : SlotId) (r : Socket) : (s.setSocket i r).auth = s.auth := rfl
@[simp] theorem setSocket_history (i : SlotId) (r : Socket) : (s.setSocket i r).history = s.history := rfl
@[simp] theorem setSocket_lines (i : SlotId) (r : Socket) : (s.setSocket i r).lines = s.lines := rfl
@[simp] theorem setSocket_maps (i : SlotId) (r : Socket) : (s.setSocket i r).maps = s.maps := rfl
@[simp] theorem setSocket_supplyHold (i : SlotId) (r : Socket) : (s.setSocket i r).supplyHold = s.supplyHold := rfl
@[simp] theorem setSocket_policy (i : SlotId) (r : Socket) : (s.setSocket i r).policy = s.policy := rfl
@[simp] theorem setSocket_thresholds (i : SlotId) (r : Socket) : (s.setSocket i r).thresholds = s.thresholds := rfl
@[simp] theorem setSocket_profiles (i : SlotId) (r : Socket) : (s.setSocket i r).profiles = s.profiles := rfl
@[simp] theorem setSocket_factors (i : SlotId) (r : Socket) : (s.setSocket i r).factors = s.factors := rfl
@[simp] theorem setSocket_links (i : SlotId) (r : Socket) : (s.setSocket i r).links = s.links := rfl
@[simp] theorem setSocket_lastServedLink (i : SlotId) (r : Socket) : (s.setSocket i r).lastServedLink = s.lastServedLink := rfl
@[simp] theorem setSocket_events (i : SlotId) (r : Socket) : (s.setSocket i r).events = s.events := rfl
@[simp] theorem setSocket_port (i : SlotId) (r : Socket) : (s.setSocket i r).port = s.port := rfl
@[simp] theorem setSocket_freeze (i : SlotId) (r : Socket) : (s.setSocket i r).freeze = s.freeze := rfl
@[simp] theorem setSocket_slot (i : SlotId) (r : Socket) (j : SlotId) : (s.setSocket i r).slot j = s.slot j := rfl
@[simp] theorem setSocket_probe (i : SlotId) (r : Socket) (j : SlotId) : (s.setSocket i r).probe j = s.probe j := rfl
@[simp] theorem setSocket_needSet (i : SlotId) (r : Socket) (j : SlotId) : (s.setSocket i r).needSet j = s.needSet j := rfl
@[simp] theorem setSocket_line (i : SlotId) (r : Socket) (m : LineId) : (s.setSocket i r).line m = s.line m := rfl
@[simp] theorem setSocket_map (i : SlotId) (r : Socket) (g : LinkId) : (s.setSocket i r).map g = s.map g := rfl
@[simp] theorem setSocket_mapEntry (i : SlotId) (r : Socket) (g : LinkId) (c : ChannelId) : (s.setSocket i r).mapEntry g c = s.mapEntry g c := rfl
@[simp] theorem setSocket_link (i : SlotId) (r : Socket) (g : LinkId) : (s.setSocket i r).link g = s.link g := rfl
@[simp] theorem setSocket_profile (i : SlotId) (r : Socket) (q : ProfileId) : (s.setSocket i r).profile q = s.profile q := rfl
@[simp] theorem setSocket_factor (i : SlotId) (r : Socket) (z : Band) : (s.setSocket i r).factor z = s.factor z := rfl
@[simp] theorem setSocket_keySlot (i : SlotId) (r : Socket) (y : KeySlotId) : (s.setSocket i r).keySlot y = s.keySlot y := rfl

/-! ### setProbe -/

@[simp] theorem setProbe_pending (i : SlotId) (r : ProbeUnit) : (s.setProbe i r).pending = s.pending := rfl
@[simp] theorem setProbe_inReset (i : SlotId) (r : ProbeUnit) : (s.setProbe i r).inReset = s.inReset := rfl
@[simp] theorem setProbe_slots (i : SlotId) (r : ProbeUnit) : (s.setProbe i r).slots = s.slots := rfl
@[simp] theorem setProbe_sockets (i : SlotId) (r : ProbeUnit) : (s.setProbe i r).sockets = s.sockets := rfl
@[simp] theorem setProbe_probes (i : SlotId) (r : ProbeUnit) : (s.setProbe i r).probes = s.probes.set i.val r := rfl
@[simp] theorem setProbe_probePeriod (i : SlotId) (r : ProbeUnit) : (s.setProbe i r).probePeriod = s.probePeriod := rfl
@[simp] theorem setProbe_needs (i : SlotId) (r : ProbeUnit) : (s.setProbe i r).needs = s.needs := rfl
@[simp] theorem setProbe_bus (i : SlotId) (r : ProbeUnit) : (s.setProbe i r).bus = s.bus := rfl
@[simp] theorem setProbe_auth (i : SlotId) (r : ProbeUnit) : (s.setProbe i r).auth = s.auth := rfl
@[simp] theorem setProbe_history (i : SlotId) (r : ProbeUnit) : (s.setProbe i r).history = s.history := rfl
@[simp] theorem setProbe_lines (i : SlotId) (r : ProbeUnit) : (s.setProbe i r).lines = s.lines := rfl
@[simp] theorem setProbe_maps (i : SlotId) (r : ProbeUnit) : (s.setProbe i r).maps = s.maps := rfl
@[simp] theorem setProbe_supplyHold (i : SlotId) (r : ProbeUnit) : (s.setProbe i r).supplyHold = s.supplyHold := rfl
@[simp] theorem setProbe_policy (i : SlotId) (r : ProbeUnit) : (s.setProbe i r).policy = s.policy := rfl
@[simp] theorem setProbe_thresholds (i : SlotId) (r : ProbeUnit) : (s.setProbe i r).thresholds = s.thresholds := rfl
@[simp] theorem setProbe_profiles (i : SlotId) (r : ProbeUnit) : (s.setProbe i r).profiles = s.profiles := rfl
@[simp] theorem setProbe_factors (i : SlotId) (r : ProbeUnit) : (s.setProbe i r).factors = s.factors := rfl
@[simp] theorem setProbe_links (i : SlotId) (r : ProbeUnit) : (s.setProbe i r).links = s.links := rfl
@[simp] theorem setProbe_lastServedLink (i : SlotId) (r : ProbeUnit) : (s.setProbe i r).lastServedLink = s.lastServedLink := rfl
@[simp] theorem setProbe_events (i : SlotId) (r : ProbeUnit) : (s.setProbe i r).events = s.events := rfl
@[simp] theorem setProbe_port (i : SlotId) (r : ProbeUnit) : (s.setProbe i r).port = s.port := rfl
@[simp] theorem setProbe_freeze (i : SlotId) (r : ProbeUnit) : (s.setProbe i r).freeze = s.freeze := rfl
@[simp] theorem setProbe_slot (i : SlotId) (r : ProbeUnit) (j : SlotId) : (s.setProbe i r).slot j = s.slot j := rfl
@[simp] theorem setProbe_socket (i : SlotId) (r : ProbeUnit) (j : SlotId) : (s.setProbe i r).socket j = s.socket j := rfl
@[simp] theorem setProbe_needSet (i : SlotId) (r : ProbeUnit) (j : SlotId) : (s.setProbe i r).needSet j = s.needSet j := rfl
@[simp] theorem setProbe_line (i : SlotId) (r : ProbeUnit) (m : LineId) : (s.setProbe i r).line m = s.line m := rfl
@[simp] theorem setProbe_map (i : SlotId) (r : ProbeUnit) (g : LinkId) : (s.setProbe i r).map g = s.map g := rfl
@[simp] theorem setProbe_mapEntry (i : SlotId) (r : ProbeUnit) (g : LinkId) (c : ChannelId) : (s.setProbe i r).mapEntry g c = s.mapEntry g c := rfl
@[simp] theorem setProbe_link (i : SlotId) (r : ProbeUnit) (g : LinkId) : (s.setProbe i r).link g = s.link g := rfl
@[simp] theorem setProbe_profile (i : SlotId) (r : ProbeUnit) (q : ProfileId) : (s.setProbe i r).profile q = s.profile q := rfl
@[simp] theorem setProbe_factor (i : SlotId) (r : ProbeUnit) (z : Band) : (s.setProbe i r).factor z = s.factor z := rfl
@[simp] theorem setProbe_keySlot (i : SlotId) (r : ProbeUnit) (y : KeySlotId) : (s.setProbe i r).keySlot y = s.keySlot y := rfl

/-! ### setProbePeriod -/

@[simp] theorem setProbePeriod_pending (n : Nat) : (s.setProbePeriod n).pending = s.pending := rfl
@[simp] theorem setProbePeriod_inReset (n : Nat) : (s.setProbePeriod n).inReset = s.inReset := rfl
@[simp] theorem setProbePeriod_slots (n : Nat) : (s.setProbePeriod n).slots = s.slots := rfl
@[simp] theorem setProbePeriod_sockets (n : Nat) : (s.setProbePeriod n).sockets = s.sockets := rfl
@[simp] theorem setProbePeriod_probes (n : Nat) : (s.setProbePeriod n).probes = s.probes := rfl
@[simp] theorem setProbePeriod_probePeriod (n : Nat) : (s.setProbePeriod n).probePeriod = n := rfl
@[simp] theorem setProbePeriod_needs (n : Nat) : (s.setProbePeriod n).needs = s.needs := rfl
@[simp] theorem setProbePeriod_bus (n : Nat) : (s.setProbePeriod n).bus = s.bus := rfl
@[simp] theorem setProbePeriod_auth (n : Nat) : (s.setProbePeriod n).auth = s.auth := rfl
@[simp] theorem setProbePeriod_history (n : Nat) : (s.setProbePeriod n).history = s.history := rfl
@[simp] theorem setProbePeriod_lines (n : Nat) : (s.setProbePeriod n).lines = s.lines := rfl
@[simp] theorem setProbePeriod_maps (n : Nat) : (s.setProbePeriod n).maps = s.maps := rfl
@[simp] theorem setProbePeriod_supplyHold (n : Nat) : (s.setProbePeriod n).supplyHold = s.supplyHold := rfl
@[simp] theorem setProbePeriod_policy (n : Nat) : (s.setProbePeriod n).policy = s.policy := rfl
@[simp] theorem setProbePeriod_thresholds (n : Nat) : (s.setProbePeriod n).thresholds = s.thresholds := rfl
@[simp] theorem setProbePeriod_profiles (n : Nat) : (s.setProbePeriod n).profiles = s.profiles := rfl
@[simp] theorem setProbePeriod_factors (n : Nat) : (s.setProbePeriod n).factors = s.factors := rfl
@[simp] theorem setProbePeriod_links (n : Nat) : (s.setProbePeriod n).links = s.links := rfl
@[simp] theorem setProbePeriod_lastServedLink (n : Nat) : (s.setProbePeriod n).lastServedLink = s.lastServedLink := rfl
@[simp] theorem setProbePeriod_events (n : Nat) : (s.setProbePeriod n).events = s.events := rfl
@[simp] theorem setProbePeriod_port (n : Nat) : (s.setProbePeriod n).port = s.port := rfl
@[simp] theorem setProbePeriod_freeze (n : Nat) : (s.setProbePeriod n).freeze = s.freeze := rfl
@[simp] theorem setProbePeriod_slot (n : Nat) (j : SlotId) : (s.setProbePeriod n).slot j = s.slot j := rfl
@[simp] theorem setProbePeriod_socket (n : Nat) (j : SlotId) : (s.setProbePeriod n).socket j = s.socket j := rfl
@[simp] theorem setProbePeriod_probe (n : Nat) (j : SlotId) : (s.setProbePeriod n).probe j = s.probe j := rfl
@[simp] theorem setProbePeriod_needSet (n : Nat) (j : SlotId) : (s.setProbePeriod n).needSet j = s.needSet j := rfl
@[simp] theorem setProbePeriod_line (n : Nat) (m : LineId) : (s.setProbePeriod n).line m = s.line m := rfl
@[simp] theorem setProbePeriod_map (n : Nat) (g : LinkId) : (s.setProbePeriod n).map g = s.map g := rfl
@[simp] theorem setProbePeriod_mapEntry (n : Nat) (g : LinkId) (c : ChannelId) : (s.setProbePeriod n).mapEntry g c = s.mapEntry g c := rfl
@[simp] theorem setProbePeriod_link (n : Nat) (g : LinkId) : (s.setProbePeriod n).link g = s.link g := rfl
@[simp] theorem setProbePeriod_profile (n : Nat) (q : ProfileId) : (s.setProbePeriod n).profile q = s.profile q := rfl
@[simp] theorem setProbePeriod_factor (n : Nat) (z : Band) : (s.setProbePeriod n).factor z = s.factor z := rfl
@[simp] theorem setProbePeriod_keySlot (n : Nat) (y : KeySlotId) : (s.setProbePeriod n).keySlot y = s.keySlot y := rfl

/-! ### setNeedSet -/

@[simp] theorem setNeedSet_pending (i : SlotId) (n : NeedSet) : (s.setNeedSet i n).pending = s.pending := rfl
@[simp] theorem setNeedSet_inReset (i : SlotId) (n : NeedSet) : (s.setNeedSet i n).inReset = s.inReset := rfl
@[simp] theorem setNeedSet_slots (i : SlotId) (n : NeedSet) : (s.setNeedSet i n).slots = s.slots := rfl
@[simp] theorem setNeedSet_sockets (i : SlotId) (n : NeedSet) : (s.setNeedSet i n).sockets = s.sockets := rfl
@[simp] theorem setNeedSet_probes (i : SlotId) (n : NeedSet) : (s.setNeedSet i n).probes = s.probes := rfl
@[simp] theorem setNeedSet_probePeriod (i : SlotId) (n : NeedSet) : (s.setNeedSet i n).probePeriod = s.probePeriod := rfl
@[simp] theorem setNeedSet_needs (i : SlotId) (n : NeedSet) : (s.setNeedSet i n).needs = s.needs.set i.val n := rfl
@[simp] theorem setNeedSet_bus (i : SlotId) (n : NeedSet) : (s.setNeedSet i n).bus = s.bus := rfl
@[simp] theorem setNeedSet_auth (i : SlotId) (n : NeedSet) : (s.setNeedSet i n).auth = s.auth := rfl
@[simp] theorem setNeedSet_history (i : SlotId) (n : NeedSet) : (s.setNeedSet i n).history = s.history := rfl
@[simp] theorem setNeedSet_lines (i : SlotId) (n : NeedSet) : (s.setNeedSet i n).lines = s.lines := rfl
@[simp] theorem setNeedSet_maps (i : SlotId) (n : NeedSet) : (s.setNeedSet i n).maps = s.maps := rfl
@[simp] theorem setNeedSet_supplyHold (i : SlotId) (n : NeedSet) : (s.setNeedSet i n).supplyHold = s.supplyHold := rfl
@[simp] theorem setNeedSet_policy (i : SlotId) (n : NeedSet) : (s.setNeedSet i n).policy = s.policy := rfl
@[simp] theorem setNeedSet_thresholds (i : SlotId) (n : NeedSet) : (s.setNeedSet i n).thresholds = s.thresholds := rfl
@[simp] theorem setNeedSet_profiles (i : SlotId) (n : NeedSet) : (s.setNeedSet i n).profiles = s.profiles := rfl
@[simp] theorem setNeedSet_factors (i : SlotId) (n : NeedSet) : (s.setNeedSet i n).factors = s.factors := rfl
@[simp] theorem setNeedSet_links (i : SlotId) (n : NeedSet) : (s.setNeedSet i n).links = s.links := rfl
@[simp] theorem setNeedSet_lastServedLink (i : SlotId) (n : NeedSet) : (s.setNeedSet i n).lastServedLink = s.lastServedLink := rfl
@[simp] theorem setNeedSet_events (i : SlotId) (n : NeedSet) : (s.setNeedSet i n).events = s.events := rfl
@[simp] theorem setNeedSet_port (i : SlotId) (n : NeedSet) : (s.setNeedSet i n).port = s.port := rfl
@[simp] theorem setNeedSet_freeze (i : SlotId) (n : NeedSet) : (s.setNeedSet i n).freeze = s.freeze := rfl
@[simp] theorem setNeedSet_slot (i : SlotId) (n : NeedSet) (j : SlotId) : (s.setNeedSet i n).slot j = s.slot j := rfl
@[simp] theorem setNeedSet_socket (i : SlotId) (n : NeedSet) (j : SlotId) : (s.setNeedSet i n).socket j = s.socket j := rfl
@[simp] theorem setNeedSet_probe (i : SlotId) (n : NeedSet) (j : SlotId) : (s.setNeedSet i n).probe j = s.probe j := rfl
@[simp] theorem setNeedSet_line (i : SlotId) (n : NeedSet) (m : LineId) : (s.setNeedSet i n).line m = s.line m := rfl
@[simp] theorem setNeedSet_map (i : SlotId) (n : NeedSet) (g : LinkId) : (s.setNeedSet i n).map g = s.map g := rfl
@[simp] theorem setNeedSet_mapEntry (i : SlotId) (n : NeedSet) (g : LinkId) (c : ChannelId) : (s.setNeedSet i n).mapEntry g c = s.mapEntry g c := rfl
@[simp] theorem setNeedSet_link (i : SlotId) (n : NeedSet) (g : LinkId) : (s.setNeedSet i n).link g = s.link g := rfl
@[simp] theorem setNeedSet_profile (i : SlotId) (n : NeedSet) (q : ProfileId) : (s.setNeedSet i n).profile q = s.profile q := rfl
@[simp] theorem setNeedSet_factor (i : SlotId) (n : NeedSet) (z : Band) : (s.setNeedSet i n).factor z = s.factor z := rfl
@[simp] theorem setNeedSet_keySlot (i : SlotId) (n : NeedSet) (y : KeySlotId) : (s.setNeedSet i n).keySlot y = s.keySlot y := rfl

/-! ### setBus -/

@[simp] theorem setBus_pending (b : BusController) : (s.setBus b).pending = s.pending := rfl
@[simp] theorem setBus_inReset (b : BusController) : (s.setBus b).inReset = s.inReset := rfl
@[simp] theorem setBus_slots (b : BusController) : (s.setBus b).slots = s.slots := rfl
@[simp] theorem setBus_sockets (b : BusController) : (s.setBus b).sockets = s.sockets := rfl
@[simp] theorem setBus_probes (b : BusController) : (s.setBus b).probes = s.probes := rfl
@[simp] theorem setBus_probePeriod (b : BusController) : (s.setBus b).probePeriod = s.probePeriod := rfl
@[simp] theorem setBus_needs (b : BusController) : (s.setBus b).needs = s.needs := rfl
@[simp] theorem setBus_bus (b : BusController) : (s.setBus b).bus = b := rfl
@[simp] theorem setBus_auth (b : BusController) : (s.setBus b).auth = s.auth := rfl
@[simp] theorem setBus_history (b : BusController) : (s.setBus b).history = s.history := rfl
@[simp] theorem setBus_lines (b : BusController) : (s.setBus b).lines = s.lines := rfl
@[simp] theorem setBus_maps (b : BusController) : (s.setBus b).maps = s.maps := rfl
@[simp] theorem setBus_supplyHold (b : BusController) : (s.setBus b).supplyHold = s.supplyHold := rfl
@[simp] theorem setBus_policy (b : BusController) : (s.setBus b).policy = s.policy := rfl
@[simp] theorem setBus_thresholds (b : BusController) : (s.setBus b).thresholds = s.thresholds := rfl
@[simp] theorem setBus_profiles (b : BusController) : (s.setBus b).profiles = s.profiles := rfl
@[simp] theorem setBus_factors (b : BusController) : (s.setBus b).factors = s.factors := rfl
@[simp] theorem setBus_links (b : BusController) : (s.setBus b).links = s.links := rfl
@[simp] theorem setBus_lastServedLink (b : BusController) : (s.setBus b).lastServedLink = s.lastServedLink := rfl
@[simp] theorem setBus_events (b : BusController) : (s.setBus b).events = s.events := rfl
@[simp] theorem setBus_port (b : BusController) : (s.setBus b).port = s.port := rfl
@[simp] theorem setBus_freeze (b : BusController) : (s.setBus b).freeze = s.freeze := rfl
@[simp] theorem setBus_slot (b : BusController) (j : SlotId) : (s.setBus b).slot j = s.slot j := rfl
@[simp] theorem setBus_socket (b : BusController) (j : SlotId) : (s.setBus b).socket j = s.socket j := rfl
@[simp] theorem setBus_probe (b : BusController) (j : SlotId) : (s.setBus b).probe j = s.probe j := rfl
@[simp] theorem setBus_needSet (b : BusController) (j : SlotId) : (s.setBus b).needSet j = s.needSet j := rfl
@[simp] theorem setBus_line (b : BusController) (m : LineId) : (s.setBus b).line m = s.line m := rfl
@[simp] theorem setBus_map (b : BusController) (g : LinkId) : (s.setBus b).map g = s.map g := rfl
@[simp] theorem setBus_mapEntry (b : BusController) (g : LinkId) (c : ChannelId) : (s.setBus b).mapEntry g c = s.mapEntry g c := rfl
@[simp] theorem setBus_link (b : BusController) (g : LinkId) : (s.setBus b).link g = s.link g := rfl
@[simp] theorem setBus_profile (b : BusController) (q : ProfileId) : (s.setBus b).profile q = s.profile q := rfl
@[simp] theorem setBus_factor (b : BusController) (z : Band) : (s.setBus b).factor z = s.factor z := rfl
@[simp] theorem setBus_keySlot (b : BusController) (y : KeySlotId) : (s.setBus b).keySlot y = s.keySlot y := rfl

/-! ### setAuth -/

@[simp] theorem setAuth_pending (a : AuthUnit) : (s.setAuth a).pending = s.pending := rfl
@[simp] theorem setAuth_inReset (a : AuthUnit) : (s.setAuth a).inReset = s.inReset := rfl
@[simp] theorem setAuth_slots (a : AuthUnit) : (s.setAuth a).slots = s.slots := rfl
@[simp] theorem setAuth_sockets (a : AuthUnit) : (s.setAuth a).sockets = s.sockets := rfl
@[simp] theorem setAuth_probes (a : AuthUnit) : (s.setAuth a).probes = s.probes := rfl
@[simp] theorem setAuth_probePeriod (a : AuthUnit) : (s.setAuth a).probePeriod = s.probePeriod := rfl
@[simp] theorem setAuth_needs (a : AuthUnit) : (s.setAuth a).needs = s.needs := rfl
@[simp] theorem setAuth_bus (a : AuthUnit) : (s.setAuth a).bus = s.bus := rfl
@[simp] theorem setAuth_auth (a : AuthUnit) : (s.setAuth a).auth = a := rfl
@[simp] theorem setAuth_history (a : AuthUnit) : (s.setAuth a).history = s.history := rfl
@[simp] theorem setAuth_lines (a : AuthUnit) : (s.setAuth a).lines = s.lines := rfl
@[simp] theorem setAuth_maps (a : AuthUnit) : (s.setAuth a).maps = s.maps := rfl
@[simp] theorem setAuth_supplyHold (a : AuthUnit) : (s.setAuth a).supplyHold = s.supplyHold := rfl
@[simp] theorem setAuth_policy (a : AuthUnit) : (s.setAuth a).policy = s.policy := rfl
@[simp] theorem setAuth_thresholds (a : AuthUnit) : (s.setAuth a).thresholds = s.thresholds := rfl
@[simp] theorem setAuth_profiles (a : AuthUnit) : (s.setAuth a).profiles = s.profiles := rfl
@[simp] theorem setAuth_factors (a : AuthUnit) : (s.setAuth a).factors = s.factors := rfl
@[simp] theorem setAuth_links (a : AuthUnit) : (s.setAuth a).links = s.links := rfl
@[simp] theorem setAuth_lastServedLink (a : AuthUnit) : (s.setAuth a).lastServedLink = s.lastServedLink := rfl
@[simp] theorem setAuth_events (a : AuthUnit) : (s.setAuth a).events = s.events := rfl
@[simp] theorem setAuth_port (a : AuthUnit) : (s.setAuth a).port = s.port := rfl
@[simp] theorem setAuth_freeze (a : AuthUnit) : (s.setAuth a).freeze = s.freeze := rfl
@[simp] theorem setAuth_slot (a : AuthUnit) (j : SlotId) : (s.setAuth a).slot j = s.slot j := rfl
@[simp] theorem setAuth_socket (a : AuthUnit) (j : SlotId) : (s.setAuth a).socket j = s.socket j := rfl
@[simp] theorem setAuth_probe (a : AuthUnit) (j : SlotId) : (s.setAuth a).probe j = s.probe j := rfl
@[simp] theorem setAuth_needSet (a : AuthUnit) (j : SlotId) : (s.setAuth a).needSet j = s.needSet j := rfl
@[simp] theorem setAuth_line (a : AuthUnit) (m : LineId) : (s.setAuth a).line m = s.line m := rfl
@[simp] theorem setAuth_map (a : AuthUnit) (g : LinkId) : (s.setAuth a).map g = s.map g := rfl
@[simp] theorem setAuth_mapEntry (a : AuthUnit) (g : LinkId) (c : ChannelId) : (s.setAuth a).mapEntry g c = s.mapEntry g c := rfl
@[simp] theorem setAuth_link (a : AuthUnit) (g : LinkId) : (s.setAuth a).link g = s.link g := rfl
@[simp] theorem setAuth_profile (a : AuthUnit) (q : ProfileId) : (s.setAuth a).profile q = s.profile q := rfl
@[simp] theorem setAuth_factor (a : AuthUnit) (z : Band) : (s.setAuth a).factor z = s.factor z := rfl

/-! ### setHistory -/

@[simp] theorem setHistory_pending (h : List HistoryEntry) : (s.setHistory h).pending = s.pending := rfl
@[simp] theorem setHistory_inReset (h : List HistoryEntry) : (s.setHistory h).inReset = s.inReset := rfl
@[simp] theorem setHistory_slots (h : List HistoryEntry) : (s.setHistory h).slots = s.slots := rfl
@[simp] theorem setHistory_sockets (h : List HistoryEntry) : (s.setHistory h).sockets = s.sockets := rfl
@[simp] theorem setHistory_probes (h : List HistoryEntry) : (s.setHistory h).probes = s.probes := rfl
@[simp] theorem setHistory_probePeriod (h : List HistoryEntry) : (s.setHistory h).probePeriod = s.probePeriod := rfl
@[simp] theorem setHistory_needs (h : List HistoryEntry) : (s.setHistory h).needs = s.needs := rfl
@[simp] theorem setHistory_bus (h : List HistoryEntry) : (s.setHistory h).bus = s.bus := rfl
@[simp] theorem setHistory_auth (h : List HistoryEntry) : (s.setHistory h).auth = s.auth := rfl
@[simp] theorem setHistory_history (h : List HistoryEntry) : (s.setHistory h).history = h := rfl
@[simp] theorem setHistory_lines (h : List HistoryEntry) : (s.setHistory h).lines = s.lines := rfl
@[simp] theorem setHistory_maps (h : List HistoryEntry) : (s.setHistory h).maps = s.maps := rfl
@[simp] theorem setHistory_supplyHold (h : List HistoryEntry) : (s.setHistory h).supplyHold = s.supplyHold := rfl
@[simp] theorem setHistory_policy (h : List HistoryEntry) : (s.setHistory h).policy = s.policy := rfl
@[simp] theorem setHistory_thresholds (h : List HistoryEntry) : (s.setHistory h).thresholds = s.thresholds := rfl
@[simp] theorem setHistory_profiles (h : List HistoryEntry) : (s.setHistory h).profiles = s.profiles := rfl
@[simp] theorem setHistory_factors (h : List HistoryEntry) : (s.setHistory h).factors = s.factors := rfl
@[simp] theorem setHistory_links (h : List HistoryEntry) : (s.setHistory h).links = s.links := rfl
@[simp] theorem setHistory_lastServedLink (h : List HistoryEntry) : (s.setHistory h).lastServedLink = s.lastServedLink := rfl
@[simp] theorem setHistory_events (h : List HistoryEntry) : (s.setHistory h).events = s.events := rfl
@[simp] theorem setHistory_port (h : List HistoryEntry) : (s.setHistory h).port = s.port := rfl
@[simp] theorem setHistory_freeze (h : List HistoryEntry) : (s.setHistory h).freeze = s.freeze := rfl
@[simp] theorem setHistory_slot (h : List HistoryEntry) (j : SlotId) : (s.setHistory h).slot j = s.slot j := rfl
@[simp] theorem setHistory_socket (h : List HistoryEntry) (j : SlotId) : (s.setHistory h).socket j = s.socket j := rfl
@[simp] theorem setHistory_probe (h : List HistoryEntry) (j : SlotId) : (s.setHistory h).probe j = s.probe j := rfl
@[simp] theorem setHistory_needSet (h : List HistoryEntry) (j : SlotId) : (s.setHistory h).needSet j = s.needSet j := rfl
@[simp] theorem setHistory_line (h : List HistoryEntry) (m : LineId) : (s.setHistory h).line m = s.line m := rfl
@[simp] theorem setHistory_map (h : List HistoryEntry) (g : LinkId) : (s.setHistory h).map g = s.map g := rfl
@[simp] theorem setHistory_mapEntry (h : List HistoryEntry) (g : LinkId) (c : ChannelId) : (s.setHistory h).mapEntry g c = s.mapEntry g c := rfl
@[simp] theorem setHistory_link (h : List HistoryEntry) (g : LinkId) : (s.setHistory h).link g = s.link g := rfl
@[simp] theorem setHistory_profile (h : List HistoryEntry) (q : ProfileId) : (s.setHistory h).profile q = s.profile q := rfl
@[simp] theorem setHistory_factor (h : List HistoryEntry) (z : Band) : (s.setHistory h).factor z = s.factor z := rfl
@[simp] theorem setHistory_keySlot (h : List HistoryEntry) (y : KeySlotId) : (s.setHistory h).keySlot y = s.keySlot y := rfl

/-! ### setLine -/

@[simp] theorem setLine_pending (l : LineId) (r : LineRecord) : (s.setLine l r).pending = s.pending := rfl
@[simp] theorem setLine_inReset (l : LineId) (r : LineRecord) : (s.setLine l r).inReset = s.inReset := rfl
@[simp] theorem setLine_slots (l : LineId) (r : LineRecord) : (s.setLine l r).slots = s.slots := rfl
@[simp] theorem setLine_sockets (l : LineId) (r : LineRecord) : (s.setLine l r).sockets = s.sockets := rfl
@[simp] theorem setLine_probes (l : LineId) (r : LineRecord) : (s.setLine l r).probes = s.probes := rfl
@[simp] theorem setLine_probePeriod (l : LineId) (r : LineRecord) : (s.setLine l r).probePeriod = s.probePeriod := rfl
@[simp] theorem setLine_needs (l : LineId) (r : LineRecord) : (s.setLine l r).needs = s.needs := rfl
@[simp] theorem setLine_bus (l : LineId) (r : LineRecord) : (s.setLine l r).bus = s.bus := rfl
@[simp] theorem setLine_auth (l : LineId) (r : LineRecord) : (s.setLine l r).auth = s.auth := rfl
@[simp] theorem setLine_history (l : LineId) (r : LineRecord) : (s.setLine l r).history = s.history := rfl
@[simp] theorem setLine_lines (l : LineId) (r : LineRecord) : (s.setLine l r).lines = s.lines.set l.val r := rfl
@[simp] theorem setLine_maps (l : LineId) (r : LineRecord) : (s.setLine l r).maps = s.maps := rfl
@[simp] theorem setLine_supplyHold (l : LineId) (r : LineRecord) : (s.setLine l r).supplyHold = s.supplyHold := rfl
@[simp] theorem setLine_policy (l : LineId) (r : LineRecord) : (s.setLine l r).policy = s.policy := rfl
@[simp] theorem setLine_thresholds (l : LineId) (r : LineRecord) : (s.setLine l r).thresholds = s.thresholds := rfl
@[simp] theorem setLine_profiles (l : LineId) (r : LineRecord) : (s.setLine l r).profiles = s.profiles := rfl
@[simp] theorem setLine_factors (l : LineId) (r : LineRecord) : (s.setLine l r).factors = s.factors := rfl
@[simp] theorem setLine_links (l : LineId) (r : LineRecord) : (s.setLine l r).links = s.links := rfl
@[simp] theorem setLine_lastServedLink (l : LineId) (r : LineRecord) : (s.setLine l r).lastServedLink = s.lastServedLink := rfl
@[simp] theorem setLine_events (l : LineId) (r : LineRecord) : (s.setLine l r).events = s.events := rfl
@[simp] theorem setLine_port (l : LineId) (r : LineRecord) : (s.setLine l r).port = s.port := rfl
@[simp] theorem setLine_freeze (l : LineId) (r : LineRecord) : (s.setLine l r).freeze = s.freeze := rfl
@[simp] theorem setLine_slot (l : LineId) (r : LineRecord) (j : SlotId) : (s.setLine l r).slot j = s.slot j := rfl
@[simp] theorem setLine_socket (l : LineId) (r : LineRecord) (j : SlotId) : (s.setLine l r).socket j = s.socket j := rfl
@[simp] theorem setLine_probe (l : LineId) (r : LineRecord) (j : SlotId) : (s.setLine l r).probe j = s.probe j := rfl
@[simp] theorem setLine_needSet (l : LineId) (r : LineRecord) (j : SlotId) : (s.setLine l r).needSet j = s.needSet j := rfl
@[simp] theorem setLine_map (l : LineId) (r : LineRecord) (g : LinkId) : (s.setLine l r).map g = s.map g := rfl
@[simp] theorem setLine_mapEntry (l : LineId) (r : LineRecord) (g : LinkId) (c : ChannelId) : (s.setLine l r).mapEntry g c = s.mapEntry g c := rfl
@[simp] theorem setLine_link (l : LineId) (r : LineRecord) (g : LinkId) : (s.setLine l r).link g = s.link g := rfl
@[simp] theorem setLine_profile (l : LineId) (r : LineRecord) (q : ProfileId) : (s.setLine l r).profile q = s.profile q := rfl
@[simp] theorem setLine_factor (l : LineId) (r : LineRecord) (z : Band) : (s.setLine l r).factor z = s.factor z := rfl
@[simp] theorem setLine_keySlot (l : LineId) (r : LineRecord) (y : KeySlotId) : (s.setLine l r).keySlot y = s.keySlot y := rfl

/-! ### setMap -/

@[simp] theorem setMap_pending (k : LinkId) (v : Vector (Option LineId) 12) : (s.setMap k v).pending = s.pending := rfl
@[simp] theorem setMap_inReset (k : LinkId) (v : Vector (Option LineId) 12) : (s.setMap k v).inReset = s.inReset := rfl
@[simp] theorem setMap_slots (k : LinkId) (v : Vector (Option LineId) 12) : (s.setMap k v).slots = s.slots := rfl
@[simp] theorem setMap_sockets (k : LinkId) (v : Vector (Option LineId) 12) : (s.setMap k v).sockets = s.sockets := rfl
@[simp] theorem setMap_probes (k : LinkId) (v : Vector (Option LineId) 12) : (s.setMap k v).probes = s.probes := rfl
@[simp] theorem setMap_probePeriod (k : LinkId) (v : Vector (Option LineId) 12) : (s.setMap k v).probePeriod = s.probePeriod := rfl
@[simp] theorem setMap_needs (k : LinkId) (v : Vector (Option LineId) 12) : (s.setMap k v).needs = s.needs := rfl
@[simp] theorem setMap_bus (k : LinkId) (v : Vector (Option LineId) 12) : (s.setMap k v).bus = s.bus := rfl
@[simp] theorem setMap_auth (k : LinkId) (v : Vector (Option LineId) 12) : (s.setMap k v).auth = s.auth := rfl
@[simp] theorem setMap_history (k : LinkId) (v : Vector (Option LineId) 12) : (s.setMap k v).history = s.history := rfl
@[simp] theorem setMap_lines (k : LinkId) (v : Vector (Option LineId) 12) : (s.setMap k v).lines = s.lines := rfl
@[simp] theorem setMap_maps (k : LinkId) (v : Vector (Option LineId) 12) : (s.setMap k v).maps = s.maps.set k.val v := rfl
@[simp] theorem setMap_supplyHold (k : LinkId) (v : Vector (Option LineId) 12) : (s.setMap k v).supplyHold = s.supplyHold := rfl
@[simp] theorem setMap_policy (k : LinkId) (v : Vector (Option LineId) 12) : (s.setMap k v).policy = s.policy := rfl
@[simp] theorem setMap_thresholds (k : LinkId) (v : Vector (Option LineId) 12) : (s.setMap k v).thresholds = s.thresholds := rfl
@[simp] theorem setMap_profiles (k : LinkId) (v : Vector (Option LineId) 12) : (s.setMap k v).profiles = s.profiles := rfl
@[simp] theorem setMap_factors (k : LinkId) (v : Vector (Option LineId) 12) : (s.setMap k v).factors = s.factors := rfl
@[simp] theorem setMap_links (k : LinkId) (v : Vector (Option LineId) 12) : (s.setMap k v).links = s.links := rfl
@[simp] theorem setMap_lastServedLink (k : LinkId) (v : Vector (Option LineId) 12) : (s.setMap k v).lastServedLink = s.lastServedLink := rfl
@[simp] theorem setMap_events (k : LinkId) (v : Vector (Option LineId) 12) : (s.setMap k v).events = s.events := rfl
@[simp] theorem setMap_port (k : LinkId) (v : Vector (Option LineId) 12) : (s.setMap k v).port = s.port := rfl
@[simp] theorem setMap_freeze (k : LinkId) (v : Vector (Option LineId) 12) : (s.setMap k v).freeze = s.freeze := rfl
@[simp] theorem setMap_slot (k : LinkId) (v : Vector (Option LineId) 12) (j : SlotId) : (s.setMap k v).slot j = s.slot j := rfl
@[simp] theorem setMap_socket (k : LinkId) (v : Vector (Option LineId) 12) (j : SlotId) : (s.setMap k v).socket j = s.socket j := rfl
@[simp] theorem setMap_probe (k : LinkId) (v : Vector (Option LineId) 12) (j : SlotId) : (s.setMap k v).probe j = s.probe j := rfl
@[simp] theorem setMap_needSet (k : LinkId) (v : Vector (Option LineId) 12) (j : SlotId) : (s.setMap k v).needSet j = s.needSet j := rfl
@[simp] theorem setMap_line (k : LinkId) (v : Vector (Option LineId) 12) (m : LineId) : (s.setMap k v).line m = s.line m := rfl
@[simp] theorem setMap_link (k : LinkId) (v : Vector (Option LineId) 12) (g : LinkId) : (s.setMap k v).link g = s.link g := rfl
@[simp] theorem setMap_profile (k : LinkId) (v : Vector (Option LineId) 12) (q : ProfileId) : (s.setMap k v).profile q = s.profile q := rfl
@[simp] theorem setMap_factor (k : LinkId) (v : Vector (Option LineId) 12) (z : Band) : (s.setMap k v).factor z = s.factor z := rfl
@[simp] theorem setMap_keySlot (k : LinkId) (v : Vector (Option LineId) 12) (y : KeySlotId) : (s.setMap k v).keySlot y = s.keySlot y := rfl

/-! ### setSupplyHold -/

@[simp] theorem setSupplyHold_pending (b : Bool) : (s.setSupplyHold b).pending = s.pending := rfl
@[simp] theorem setSupplyHold_inReset (b : Bool) : (s.setSupplyHold b).inReset = s.inReset := rfl
@[simp] theorem setSupplyHold_slots (b : Bool) : (s.setSupplyHold b).slots = s.slots := rfl
@[simp] theorem setSupplyHold_sockets (b : Bool) : (s.setSupplyHold b).sockets = s.sockets := rfl
@[simp] theorem setSupplyHold_probes (b : Bool) : (s.setSupplyHold b).probes = s.probes := rfl
@[simp] theorem setSupplyHold_probePeriod (b : Bool) : (s.setSupplyHold b).probePeriod = s.probePeriod := rfl
@[simp] theorem setSupplyHold_needs (b : Bool) : (s.setSupplyHold b).needs = s.needs := rfl
@[simp] theorem setSupplyHold_bus (b : Bool) : (s.setSupplyHold b).bus = s.bus := rfl
@[simp] theorem setSupplyHold_auth (b : Bool) : (s.setSupplyHold b).auth = s.auth := rfl
@[simp] theorem setSupplyHold_history (b : Bool) : (s.setSupplyHold b).history = s.history := rfl
@[simp] theorem setSupplyHold_lines (b : Bool) : (s.setSupplyHold b).lines = s.lines := rfl
@[simp] theorem setSupplyHold_maps (b : Bool) : (s.setSupplyHold b).maps = s.maps := rfl
@[simp] theorem setSupplyHold_supplyHold (b : Bool) : (s.setSupplyHold b).supplyHold = b := rfl
@[simp] theorem setSupplyHold_policy (b : Bool) : (s.setSupplyHold b).policy = s.policy := rfl
@[simp] theorem setSupplyHold_thresholds (b : Bool) : (s.setSupplyHold b).thresholds = s.thresholds := rfl
@[simp] theorem setSupplyHold_profiles (b : Bool) : (s.setSupplyHold b).profiles = s.profiles := rfl
@[simp] theorem setSupplyHold_factors (b : Bool) : (s.setSupplyHold b).factors = s.factors := rfl
@[simp] theorem setSupplyHold_links (b : Bool) : (s.setSupplyHold b).links = s.links := rfl
@[simp] theorem setSupplyHold_lastServedLink (b : Bool) : (s.setSupplyHold b).lastServedLink = s.lastServedLink := rfl
@[simp] theorem setSupplyHold_events (b : Bool) : (s.setSupplyHold b).events = s.events := rfl
@[simp] theorem setSupplyHold_port (b : Bool) : (s.setSupplyHold b).port = s.port := rfl
@[simp] theorem setSupplyHold_freeze (b : Bool) : (s.setSupplyHold b).freeze = s.freeze := rfl
@[simp] theorem setSupplyHold_slot (b : Bool) (j : SlotId) : (s.setSupplyHold b).slot j = s.slot j := rfl
@[simp] theorem setSupplyHold_socket (b : Bool) (j : SlotId) : (s.setSupplyHold b).socket j = s.socket j := rfl
@[simp] theorem setSupplyHold_probe (b : Bool) (j : SlotId) : (s.setSupplyHold b).probe j = s.probe j := rfl
@[simp] theorem setSupplyHold_needSet (b : Bool) (j : SlotId) : (s.setSupplyHold b).needSet j = s.needSet j := rfl
@[simp] theorem setSupplyHold_line (b : Bool) (m : LineId) : (s.setSupplyHold b).line m = s.line m := rfl
@[simp] theorem setSupplyHold_map (b : Bool) (g : LinkId) : (s.setSupplyHold b).map g = s.map g := rfl
@[simp] theorem setSupplyHold_mapEntry (b : Bool) (g : LinkId) (c : ChannelId) : (s.setSupplyHold b).mapEntry g c = s.mapEntry g c := rfl
@[simp] theorem setSupplyHold_link (b : Bool) (g : LinkId) : (s.setSupplyHold b).link g = s.link g := rfl
@[simp] theorem setSupplyHold_profile (b : Bool) (q : ProfileId) : (s.setSupplyHold b).profile q = s.profile q := rfl
@[simp] theorem setSupplyHold_factor (b : Bool) (z : Band) : (s.setSupplyHold b).factor z = s.factor z := rfl
@[simp] theorem setSupplyHold_keySlot (b : Bool) (y : KeySlotId) : (s.setSupplyHold b).keySlot y = s.keySlot y := rfl

/-! ### setPolicy -/

@[simp] theorem setPolicy_pending (p : Policy) : (s.setPolicy p).pending = s.pending := rfl
@[simp] theorem setPolicy_inReset (p : Policy) : (s.setPolicy p).inReset = s.inReset := rfl
@[simp] theorem setPolicy_slots (p : Policy) : (s.setPolicy p).slots = s.slots := rfl
@[simp] theorem setPolicy_sockets (p : Policy) : (s.setPolicy p).sockets = s.sockets := rfl
@[simp] theorem setPolicy_probes (p : Policy) : (s.setPolicy p).probes = s.probes := rfl
@[simp] theorem setPolicy_probePeriod (p : Policy) : (s.setPolicy p).probePeriod = s.probePeriod := rfl
@[simp] theorem setPolicy_needs (p : Policy) : (s.setPolicy p).needs = s.needs := rfl
@[simp] theorem setPolicy_bus (p : Policy) : (s.setPolicy p).bus = s.bus := rfl
@[simp] theorem setPolicy_auth (p : Policy) : (s.setPolicy p).auth = s.auth := rfl
@[simp] theorem setPolicy_history (p : Policy) : (s.setPolicy p).history = s.history := rfl
@[simp] theorem setPolicy_lines (p : Policy) : (s.setPolicy p).lines = s.lines := rfl
@[simp] theorem setPolicy_maps (p : Policy) : (s.setPolicy p).maps = s.maps := rfl
@[simp] theorem setPolicy_supplyHold (p : Policy) : (s.setPolicy p).supplyHold = s.supplyHold := rfl
@[simp] theorem setPolicy_policy (p : Policy) : (s.setPolicy p).policy = p := rfl
@[simp] theorem setPolicy_thresholds (p : Policy) : (s.setPolicy p).thresholds = s.thresholds := rfl
@[simp] theorem setPolicy_profiles (p : Policy) : (s.setPolicy p).profiles = s.profiles := rfl
@[simp] theorem setPolicy_factors (p : Policy) : (s.setPolicy p).factors = s.factors := rfl
@[simp] theorem setPolicy_links (p : Policy) : (s.setPolicy p).links = s.links := rfl
@[simp] theorem setPolicy_lastServedLink (p : Policy) : (s.setPolicy p).lastServedLink = s.lastServedLink := rfl
@[simp] theorem setPolicy_events (p : Policy) : (s.setPolicy p).events = s.events := rfl
@[simp] theorem setPolicy_port (p : Policy) : (s.setPolicy p).port = s.port := rfl
@[simp] theorem setPolicy_freeze (p : Policy) : (s.setPolicy p).freeze = s.freeze := rfl
@[simp] theorem setPolicy_slot (p : Policy) (j : SlotId) : (s.setPolicy p).slot j = s.slot j := rfl
@[simp] theorem setPolicy_socket (p : Policy) (j : SlotId) : (s.setPolicy p).socket j = s.socket j := rfl
@[simp] theorem setPolicy_probe (p : Policy) (j : SlotId) : (s.setPolicy p).probe j = s.probe j := rfl
@[simp] theorem setPolicy_needSet (p : Policy) (j : SlotId) : (s.setPolicy p).needSet j = s.needSet j := rfl
@[simp] theorem setPolicy_line (p : Policy) (m : LineId) : (s.setPolicy p).line m = s.line m := rfl
@[simp] theorem setPolicy_map (p : Policy) (g : LinkId) : (s.setPolicy p).map g = s.map g := rfl
@[simp] theorem setPolicy_mapEntry (p : Policy) (g : LinkId) (c : ChannelId) : (s.setPolicy p).mapEntry g c = s.mapEntry g c := rfl
@[simp] theorem setPolicy_link (p : Policy) (g : LinkId) : (s.setPolicy p).link g = s.link g := rfl
@[simp] theorem setPolicy_profile (p : Policy) (q : ProfileId) : (s.setPolicy p).profile q = s.profile q := rfl
@[simp] theorem setPolicy_factor (p : Policy) (z : Band) : (s.setPolicy p).factor z = s.factor z := rfl
@[simp] theorem setPolicy_keySlot (p : Policy) (y : KeySlotId) : (s.setPolicy p).keySlot y = s.keySlot y := rfl

/-! ### setThresholds -/

@[simp] theorem setThresholds_pending (x : Thresholds) : (s.setThresholds x).pending = s.pending := rfl
@[simp] theorem setThresholds_inReset (x : Thresholds) : (s.setThresholds x).inReset = s.inReset := rfl
@[simp] theorem setThresholds_slots (x : Thresholds) : (s.setThresholds x).slots = s.slots := rfl
@[simp] theorem setThresholds_sockets (x : Thresholds) : (s.setThresholds x).sockets = s.sockets := rfl
@[simp] theorem setThresholds_probes (x : Thresholds) : (s.setThresholds x).probes = s.probes := rfl
@[simp] theorem setThresholds_probePeriod (x : Thresholds) : (s.setThresholds x).probePeriod = s.probePeriod := rfl
@[simp] theorem setThresholds_needs (x : Thresholds) : (s.setThresholds x).needs = s.needs := rfl
@[simp] theorem setThresholds_bus (x : Thresholds) : (s.setThresholds x).bus = s.bus := rfl
@[simp] theorem setThresholds_auth (x : Thresholds) : (s.setThresholds x).auth = s.auth := rfl
@[simp] theorem setThresholds_history (x : Thresholds) : (s.setThresholds x).history = s.history := rfl
@[simp] theorem setThresholds_lines (x : Thresholds) : (s.setThresholds x).lines = s.lines := rfl
@[simp] theorem setThresholds_maps (x : Thresholds) : (s.setThresholds x).maps = s.maps := rfl
@[simp] theorem setThresholds_supplyHold (x : Thresholds) : (s.setThresholds x).supplyHold = s.supplyHold := rfl
@[simp] theorem setThresholds_policy (x : Thresholds) : (s.setThresholds x).policy = s.policy := rfl
@[simp] theorem setThresholds_thresholds (x : Thresholds) : (s.setThresholds x).thresholds = x := rfl
@[simp] theorem setThresholds_profiles (x : Thresholds) : (s.setThresholds x).profiles = s.profiles := rfl
@[simp] theorem setThresholds_factors (x : Thresholds) : (s.setThresholds x).factors = s.factors := rfl
@[simp] theorem setThresholds_links (x : Thresholds) : (s.setThresholds x).links = s.links := rfl
@[simp] theorem setThresholds_lastServedLink (x : Thresholds) : (s.setThresholds x).lastServedLink = s.lastServedLink := rfl
@[simp] theorem setThresholds_events (x : Thresholds) : (s.setThresholds x).events = s.events := rfl
@[simp] theorem setThresholds_port (x : Thresholds) : (s.setThresholds x).port = s.port := rfl
@[simp] theorem setThresholds_freeze (x : Thresholds) : (s.setThresholds x).freeze = s.freeze := rfl
@[simp] theorem setThresholds_slot (x : Thresholds) (j : SlotId) : (s.setThresholds x).slot j = s.slot j := rfl
@[simp] theorem setThresholds_socket (x : Thresholds) (j : SlotId) : (s.setThresholds x).socket j = s.socket j := rfl
@[simp] theorem setThresholds_probe (x : Thresholds) (j : SlotId) : (s.setThresholds x).probe j = s.probe j := rfl
@[simp] theorem setThresholds_needSet (x : Thresholds) (j : SlotId) : (s.setThresholds x).needSet j = s.needSet j := rfl
@[simp] theorem setThresholds_line (x : Thresholds) (m : LineId) : (s.setThresholds x).line m = s.line m := rfl
@[simp] theorem setThresholds_map (x : Thresholds) (g : LinkId) : (s.setThresholds x).map g = s.map g := rfl
@[simp] theorem setThresholds_mapEntry (x : Thresholds) (g : LinkId) (c : ChannelId) : (s.setThresholds x).mapEntry g c = s.mapEntry g c := rfl
@[simp] theorem setThresholds_link (x : Thresholds) (g : LinkId) : (s.setThresholds x).link g = s.link g := rfl
@[simp] theorem setThresholds_profile (x : Thresholds) (q : ProfileId) : (s.setThresholds x).profile q = s.profile q := rfl
@[simp] theorem setThresholds_factor (x : Thresholds) (z : Band) : (s.setThresholds x).factor z = s.factor z := rfl
@[simp] theorem setThresholds_keySlot (x : Thresholds) (y : KeySlotId) : (s.setThresholds x).keySlot y = s.keySlot y := rfl

/-! ### setProfile -/

@[simp] theorem setProfile_pending (p : ProfileId) (r : Option Profile) : (s.setProfile p r).pending = s.pending := rfl
@[simp] theorem setProfile_inReset (p : ProfileId) (r : Option Profile) : (s.setProfile p r).inReset = s.inReset := rfl
@[simp] theorem setProfile_slots (p : ProfileId) (r : Option Profile) : (s.setProfile p r).slots = s.slots := rfl
@[simp] theorem setProfile_sockets (p : ProfileId) (r : Option Profile) : (s.setProfile p r).sockets = s.sockets := rfl
@[simp] theorem setProfile_probes (p : ProfileId) (r : Option Profile) : (s.setProfile p r).probes = s.probes := rfl
@[simp] theorem setProfile_probePeriod (p : ProfileId) (r : Option Profile) : (s.setProfile p r).probePeriod = s.probePeriod := rfl
@[simp] theorem setProfile_needs (p : ProfileId) (r : Option Profile) : (s.setProfile p r).needs = s.needs := rfl
@[simp] theorem setProfile_bus (p : ProfileId) (r : Option Profile) : (s.setProfile p r).bus = s.bus := rfl
@[simp] theorem setProfile_auth (p : ProfileId) (r : Option Profile) : (s.setProfile p r).auth = s.auth := rfl
@[simp] theorem setProfile_history (p : ProfileId) (r : Option Profile) : (s.setProfile p r).history = s.history := rfl
@[simp] theorem setProfile_lines (p : ProfileId) (r : Option Profile) : (s.setProfile p r).lines = s.lines := rfl
@[simp] theorem setProfile_maps (p : ProfileId) (r : Option Profile) : (s.setProfile p r).maps = s.maps := rfl
@[simp] theorem setProfile_supplyHold (p : ProfileId) (r : Option Profile) : (s.setProfile p r).supplyHold = s.supplyHold := rfl
@[simp] theorem setProfile_policy (p : ProfileId) (r : Option Profile) : (s.setProfile p r).policy = s.policy := rfl
@[simp] theorem setProfile_thresholds (p : ProfileId) (r : Option Profile) : (s.setProfile p r).thresholds = s.thresholds := rfl
@[simp] theorem setProfile_profiles (p : ProfileId) (r : Option Profile) : (s.setProfile p r).profiles = s.profiles.set p.val r := rfl
@[simp] theorem setProfile_factors (p : ProfileId) (r : Option Profile) : (s.setProfile p r).factors = s.factors := rfl
@[simp] theorem setProfile_links (p : ProfileId) (r : Option Profile) : (s.setProfile p r).links = s.links := rfl
@[simp] theorem setProfile_lastServedLink (p : ProfileId) (r : Option Profile) : (s.setProfile p r).lastServedLink = s.lastServedLink := rfl
@[simp] theorem setProfile_events (p : ProfileId) (r : Option Profile) : (s.setProfile p r).events = s.events := rfl
@[simp] theorem setProfile_port (p : ProfileId) (r : Option Profile) : (s.setProfile p r).port = s.port := rfl
@[simp] theorem setProfile_freeze (p : ProfileId) (r : Option Profile) : (s.setProfile p r).freeze = s.freeze := rfl
@[simp] theorem setProfile_slot (p : ProfileId) (r : Option Profile) (j : SlotId) : (s.setProfile p r).slot j = s.slot j := rfl
@[simp] theorem setProfile_socket (p : ProfileId) (r : Option Profile) (j : SlotId) : (s.setProfile p r).socket j = s.socket j := rfl
@[simp] theorem setProfile_probe (p : ProfileId) (r : Option Profile) (j : SlotId) : (s.setProfile p r).probe j = s.probe j := rfl
@[simp] theorem setProfile_needSet (p : ProfileId) (r : Option Profile) (j : SlotId) : (s.setProfile p r).needSet j = s.needSet j := rfl
@[simp] theorem setProfile_line (p : ProfileId) (r : Option Profile) (m : LineId) : (s.setProfile p r).line m = s.line m := rfl
@[simp] theorem setProfile_map (p : ProfileId) (r : Option Profile) (g : LinkId) : (s.setProfile p r).map g = s.map g := rfl
@[simp] theorem setProfile_mapEntry (p : ProfileId) (r : Option Profile) (g : LinkId) (c : ChannelId) : (s.setProfile p r).mapEntry g c = s.mapEntry g c := rfl
@[simp] theorem setProfile_link (p : ProfileId) (r : Option Profile) (g : LinkId) : (s.setProfile p r).link g = s.link g := rfl
@[simp] theorem setProfile_factor (p : ProfileId) (r : Option Profile) (z : Band) : (s.setProfile p r).factor z = s.factor z := rfl
@[simp] theorem setProfile_keySlot (p : ProfileId) (r : Option Profile) (y : KeySlotId) : (s.setProfile p r).keySlot y = s.keySlot y := rfl

/-! ### setFactors -/

@[simp] theorem setFactors_pending (f : Vector Nat 8) : (s.setFactors f).pending = s.pending := rfl
@[simp] theorem setFactors_inReset (f : Vector Nat 8) : (s.setFactors f).inReset = s.inReset := rfl
@[simp] theorem setFactors_slots (f : Vector Nat 8) : (s.setFactors f).slots = s.slots := rfl
@[simp] theorem setFactors_sockets (f : Vector Nat 8) : (s.setFactors f).sockets = s.sockets := rfl
@[simp] theorem setFactors_probes (f : Vector Nat 8) : (s.setFactors f).probes = s.probes := rfl
@[simp] theorem setFactors_probePeriod (f : Vector Nat 8) : (s.setFactors f).probePeriod = s.probePeriod := rfl
@[simp] theorem setFactors_needs (f : Vector Nat 8) : (s.setFactors f).needs = s.needs := rfl
@[simp] theorem setFactors_bus (f : Vector Nat 8) : (s.setFactors f).bus = s.bus := rfl
@[simp] theorem setFactors_auth (f : Vector Nat 8) : (s.setFactors f).auth = s.auth := rfl
@[simp] theorem setFactors_history (f : Vector Nat 8) : (s.setFactors f).history = s.history := rfl
@[simp] theorem setFactors_lines (f : Vector Nat 8) : (s.setFactors f).lines = s.lines := rfl
@[simp] theorem setFactors_maps (f : Vector Nat 8) : (s.setFactors f).maps = s.maps := rfl
@[simp] theorem setFactors_supplyHold (f : Vector Nat 8) : (s.setFactors f).supplyHold = s.supplyHold := rfl
@[simp] theorem setFactors_policy (f : Vector Nat 8) : (s.setFactors f).policy = s.policy := rfl
@[simp] theorem setFactors_thresholds (f : Vector Nat 8) : (s.setFactors f).thresholds = s.thresholds := rfl
@[simp] theorem setFactors_profiles (f : Vector Nat 8) : (s.setFactors f).profiles = s.profiles := rfl
@[simp] theorem setFactors_factors (f : Vector Nat 8) : (s.setFactors f).factors = f := rfl
@[simp] theorem setFactors_links (f : Vector Nat 8) : (s.setFactors f).links = s.links := rfl
@[simp] theorem setFactors_lastServedLink (f : Vector Nat 8) : (s.setFactors f).lastServedLink = s.lastServedLink := rfl
@[simp] theorem setFactors_events (f : Vector Nat 8) : (s.setFactors f).events = s.events := rfl
@[simp] theorem setFactors_port (f : Vector Nat 8) : (s.setFactors f).port = s.port := rfl
@[simp] theorem setFactors_freeze (f : Vector Nat 8) : (s.setFactors f).freeze = s.freeze := rfl
@[simp] theorem setFactors_slot (f : Vector Nat 8) (j : SlotId) : (s.setFactors f).slot j = s.slot j := rfl
@[simp] theorem setFactors_socket (f : Vector Nat 8) (j : SlotId) : (s.setFactors f).socket j = s.socket j := rfl
@[simp] theorem setFactors_probe (f : Vector Nat 8) (j : SlotId) : (s.setFactors f).probe j = s.probe j := rfl
@[simp] theorem setFactors_needSet (f : Vector Nat 8) (j : SlotId) : (s.setFactors f).needSet j = s.needSet j := rfl
@[simp] theorem setFactors_line (f : Vector Nat 8) (m : LineId) : (s.setFactors f).line m = s.line m := rfl
@[simp] theorem setFactors_map (f : Vector Nat 8) (g : LinkId) : (s.setFactors f).map g = s.map g := rfl
@[simp] theorem setFactors_mapEntry (f : Vector Nat 8) (g : LinkId) (c : ChannelId) : (s.setFactors f).mapEntry g c = s.mapEntry g c := rfl
@[simp] theorem setFactors_link (f : Vector Nat 8) (g : LinkId) : (s.setFactors f).link g = s.link g := rfl
@[simp] theorem setFactors_profile (f : Vector Nat 8) (q : ProfileId) : (s.setFactors f).profile q = s.profile q := rfl
@[simp] theorem setFactors_keySlot (f : Vector Nat 8) (y : KeySlotId) : (s.setFactors f).keySlot y = s.keySlot y := rfl

/-! ### setLink -/

@[simp] theorem setLink_pending (k : LinkId) (r : EngineLink) : (s.setLink k r).pending = s.pending := rfl
@[simp] theorem setLink_inReset (k : LinkId) (r : EngineLink) : (s.setLink k r).inReset = s.inReset := rfl
@[simp] theorem setLink_slots (k : LinkId) (r : EngineLink) : (s.setLink k r).slots = s.slots := rfl
@[simp] theorem setLink_sockets (k : LinkId) (r : EngineLink) : (s.setLink k r).sockets = s.sockets := rfl
@[simp] theorem setLink_probes (k : LinkId) (r : EngineLink) : (s.setLink k r).probes = s.probes := rfl
@[simp] theorem setLink_probePeriod (k : LinkId) (r : EngineLink) : (s.setLink k r).probePeriod = s.probePeriod := rfl
@[simp] theorem setLink_needs (k : LinkId) (r : EngineLink) : (s.setLink k r).needs = s.needs := rfl
@[simp] theorem setLink_bus (k : LinkId) (r : EngineLink) : (s.setLink k r).bus = s.bus := rfl
@[simp] theorem setLink_auth (k : LinkId) (r : EngineLink) : (s.setLink k r).auth = s.auth := rfl
@[simp] theorem setLink_history (k : LinkId) (r : EngineLink) : (s.setLink k r).history = s.history := rfl
@[simp] theorem setLink_lines (k : LinkId) (r : EngineLink) : (s.setLink k r).lines = s.lines := rfl
@[simp] theorem setLink_maps (k : LinkId) (r : EngineLink) : (s.setLink k r).maps = s.maps := rfl
@[simp] theorem setLink_supplyHold (k : LinkId) (r : EngineLink) : (s.setLink k r).supplyHold = s.supplyHold := rfl
@[simp] theorem setLink_policy (k : LinkId) (r : EngineLink) : (s.setLink k r).policy = s.policy := rfl
@[simp] theorem setLink_thresholds (k : LinkId) (r : EngineLink) : (s.setLink k r).thresholds = s.thresholds := rfl
@[simp] theorem setLink_profiles (k : LinkId) (r : EngineLink) : (s.setLink k r).profiles = s.profiles := rfl
@[simp] theorem setLink_factors (k : LinkId) (r : EngineLink) : (s.setLink k r).factors = s.factors := rfl
@[simp] theorem setLink_links (k : LinkId) (r : EngineLink) : (s.setLink k r).links = s.links.set k.val r := rfl
@[simp] theorem setLink_lastServedLink (k : LinkId) (r : EngineLink) : (s.setLink k r).lastServedLink = s.lastServedLink := rfl
@[simp] theorem setLink_events (k : LinkId) (r : EngineLink) : (s.setLink k r).events = s.events := rfl
@[simp] theorem setLink_port (k : LinkId) (r : EngineLink) : (s.setLink k r).port = s.port := rfl
@[simp] theorem setLink_freeze (k : LinkId) (r : EngineLink) : (s.setLink k r).freeze = s.freeze := rfl
@[simp] theorem setLink_slot (k : LinkId) (r : EngineLink) (j : SlotId) : (s.setLink k r).slot j = s.slot j := rfl
@[simp] theorem setLink_socket (k : LinkId) (r : EngineLink) (j : SlotId) : (s.setLink k r).socket j = s.socket j := rfl
@[simp] theorem setLink_probe (k : LinkId) (r : EngineLink) (j : SlotId) : (s.setLink k r).probe j = s.probe j := rfl
@[simp] theorem setLink_needSet (k : LinkId) (r : EngineLink) (j : SlotId) : (s.setLink k r).needSet j = s.needSet j := rfl
@[simp] theorem setLink_line (k : LinkId) (r : EngineLink) (m : LineId) : (s.setLink k r).line m = s.line m := rfl
@[simp] theorem setLink_map (k : LinkId) (r : EngineLink) (g : LinkId) : (s.setLink k r).map g = s.map g := rfl
@[simp] theorem setLink_mapEntry (k : LinkId) (r : EngineLink) (g : LinkId) (c : ChannelId) : (s.setLink k r).mapEntry g c = s.mapEntry g c := rfl
@[simp] theorem setLink_profile (k : LinkId) (r : EngineLink) (q : ProfileId) : (s.setLink k r).profile q = s.profile q := rfl
@[simp] theorem setLink_factor (k : LinkId) (r : EngineLink) (z : Band) : (s.setLink k r).factor z = s.factor z := rfl
@[simp] theorem setLink_keySlot (k : LinkId) (r : EngineLink) (y : KeySlotId) : (s.setLink k r).keySlot y = s.keySlot y := rfl

/-! ### setLastServedLink -/

@[simp] theorem setLastServedLink_pending (k : LinkId) : (s.setLastServedLink k).pending = s.pending := rfl
@[simp] theorem setLastServedLink_inReset (k : LinkId) : (s.setLastServedLink k).inReset = s.inReset := rfl
@[simp] theorem setLastServedLink_slots (k : LinkId) : (s.setLastServedLink k).slots = s.slots := rfl
@[simp] theorem setLastServedLink_sockets (k : LinkId) : (s.setLastServedLink k).sockets = s.sockets := rfl
@[simp] theorem setLastServedLink_probes (k : LinkId) : (s.setLastServedLink k).probes = s.probes := rfl
@[simp] theorem setLastServedLink_probePeriod (k : LinkId) : (s.setLastServedLink k).probePeriod = s.probePeriod := rfl
@[simp] theorem setLastServedLink_needs (k : LinkId) : (s.setLastServedLink k).needs = s.needs := rfl
@[simp] theorem setLastServedLink_bus (k : LinkId) : (s.setLastServedLink k).bus = s.bus := rfl
@[simp] theorem setLastServedLink_auth (k : LinkId) : (s.setLastServedLink k).auth = s.auth := rfl
@[simp] theorem setLastServedLink_history (k : LinkId) : (s.setLastServedLink k).history = s.history := rfl
@[simp] theorem setLastServedLink_lines (k : LinkId) : (s.setLastServedLink k).lines = s.lines := rfl
@[simp] theorem setLastServedLink_maps (k : LinkId) : (s.setLastServedLink k).maps = s.maps := rfl
@[simp] theorem setLastServedLink_supplyHold (k : LinkId) : (s.setLastServedLink k).supplyHold = s.supplyHold := rfl
@[simp] theorem setLastServedLink_policy (k : LinkId) : (s.setLastServedLink k).policy = s.policy := rfl
@[simp] theorem setLastServedLink_thresholds (k : LinkId) : (s.setLastServedLink k).thresholds = s.thresholds := rfl
@[simp] theorem setLastServedLink_profiles (k : LinkId) : (s.setLastServedLink k).profiles = s.profiles := rfl
@[simp] theorem setLastServedLink_factors (k : LinkId) : (s.setLastServedLink k).factors = s.factors := rfl
@[simp] theorem setLastServedLink_links (k : LinkId) : (s.setLastServedLink k).links = s.links := rfl
@[simp] theorem setLastServedLink_lastServedLink (k : LinkId) : (s.setLastServedLink k).lastServedLink = k := rfl
@[simp] theorem setLastServedLink_events (k : LinkId) : (s.setLastServedLink k).events = s.events := rfl
@[simp] theorem setLastServedLink_port (k : LinkId) : (s.setLastServedLink k).port = s.port := rfl
@[simp] theorem setLastServedLink_freeze (k : LinkId) : (s.setLastServedLink k).freeze = s.freeze := rfl
@[simp] theorem setLastServedLink_slot (k : LinkId) (j : SlotId) : (s.setLastServedLink k).slot j = s.slot j := rfl
@[simp] theorem setLastServedLink_socket (k : LinkId) (j : SlotId) : (s.setLastServedLink k).socket j = s.socket j := rfl
@[simp] theorem setLastServedLink_probe (k : LinkId) (j : SlotId) : (s.setLastServedLink k).probe j = s.probe j := rfl
@[simp] theorem setLastServedLink_needSet (k : LinkId) (j : SlotId) : (s.setLastServedLink k).needSet j = s.needSet j := rfl
@[simp] theorem setLastServedLink_line (k : LinkId) (m : LineId) : (s.setLastServedLink k).line m = s.line m := rfl
@[simp] theorem setLastServedLink_map (k : LinkId) (g : LinkId) : (s.setLastServedLink k).map g = s.map g := rfl
@[simp] theorem setLastServedLink_mapEntry (k : LinkId) (g : LinkId) (c : ChannelId) : (s.setLastServedLink k).mapEntry g c = s.mapEntry g c := rfl
@[simp] theorem setLastServedLink_link (k : LinkId) (g : LinkId) : (s.setLastServedLink k).link g = s.link g := rfl
@[simp] theorem setLastServedLink_profile (k : LinkId) (q : ProfileId) : (s.setLastServedLink k).profile q = s.profile q := rfl
@[simp] theorem setLastServedLink_factor (k : LinkId) (z : Band) : (s.setLastServedLink k).factor z = s.factor z := rfl
@[simp] theorem setLastServedLink_keySlot (k : LinkId) (y : KeySlotId) : (s.setLastServedLink k).keySlot y = s.keySlot y := rfl

/-! ### setEvents -/

@[simp] theorem setEvents_pending (e : EventUnit) : (s.setEvents e).pending = s.pending := rfl
@[simp] theorem setEvents_inReset (e : EventUnit) : (s.setEvents e).inReset = s.inReset := rfl
@[simp] theorem setEvents_slots (e : EventUnit) : (s.setEvents e).slots = s.slots := rfl
@[simp] theorem setEvents_sockets (e : EventUnit) : (s.setEvents e).sockets = s.sockets := rfl
@[simp] theorem setEvents_probes (e : EventUnit) : (s.setEvents e).probes = s.probes := rfl
@[simp] theorem setEvents_probePeriod (e : EventUnit) : (s.setEvents e).probePeriod = s.probePeriod := rfl
@[simp] theorem setEvents_needs (e : EventUnit) : (s.setEvents e).needs = s.needs := rfl
@[simp] theorem setEvents_bus (e : EventUnit) : (s.setEvents e).bus = s.bus := rfl
@[simp] theorem setEvents_auth (e : EventUnit) : (s.setEvents e).auth = s.auth := rfl
@[simp] theorem setEvents_history (e : EventUnit) : (s.setEvents e).history = s.history := rfl
@[simp] theorem setEvents_lines (e : EventUnit) : (s.setEvents e).lines = s.lines := rfl
@[simp] theorem setEvents_maps (e : EventUnit) : (s.setEvents e).maps = s.maps := rfl
@[simp] theorem setEvents_supplyHold (e : EventUnit) : (s.setEvents e).supplyHold = s.supplyHold := rfl
@[simp] theorem setEvents_policy (e : EventUnit) : (s.setEvents e).policy = s.policy := rfl
@[simp] theorem setEvents_thresholds (e : EventUnit) : (s.setEvents e).thresholds = s.thresholds := rfl
@[simp] theorem setEvents_profiles (e : EventUnit) : (s.setEvents e).profiles = s.profiles := rfl
@[simp] theorem setEvents_factors (e : EventUnit) : (s.setEvents e).factors = s.factors := rfl
@[simp] theorem setEvents_links (e : EventUnit) : (s.setEvents e).links = s.links := rfl
@[simp] theorem setEvents_lastServedLink (e : EventUnit) : (s.setEvents e).lastServedLink = s.lastServedLink := rfl
@[simp] theorem setEvents_events (e : EventUnit) : (s.setEvents e).events = e := rfl
@[simp] theorem setEvents_port (e : EventUnit) : (s.setEvents e).port = s.port := rfl
@[simp] theorem setEvents_freeze (e : EventUnit) : (s.setEvents e).freeze = s.freeze := rfl
@[simp] theorem setEvents_slot (e : EventUnit) (j : SlotId) : (s.setEvents e).slot j = s.slot j := rfl
@[simp] theorem setEvents_socket (e : EventUnit) (j : SlotId) : (s.setEvents e).socket j = s.socket j := rfl
@[simp] theorem setEvents_probe (e : EventUnit) (j : SlotId) : (s.setEvents e).probe j = s.probe j := rfl
@[simp] theorem setEvents_needSet (e : EventUnit) (j : SlotId) : (s.setEvents e).needSet j = s.needSet j := rfl
@[simp] theorem setEvents_line (e : EventUnit) (m : LineId) : (s.setEvents e).line m = s.line m := rfl
@[simp] theorem setEvents_map (e : EventUnit) (g : LinkId) : (s.setEvents e).map g = s.map g := rfl
@[simp] theorem setEvents_mapEntry (e : EventUnit) (g : LinkId) (c : ChannelId) : (s.setEvents e).mapEntry g c = s.mapEntry g c := rfl
@[simp] theorem setEvents_link (e : EventUnit) (g : LinkId) : (s.setEvents e).link g = s.link g := rfl
@[simp] theorem setEvents_profile (e : EventUnit) (q : ProfileId) : (s.setEvents e).profile q = s.profile q := rfl
@[simp] theorem setEvents_factor (e : EventUnit) (z : Band) : (s.setEvents e).factor z = s.factor z := rfl
@[simp] theorem setEvents_keySlot (e : EventUnit) (y : KeySlotId) : (s.setEvents e).keySlot y = s.keySlot y := rfl

/-! ### setPort -/

@[simp] theorem setPort_pending (p : FormatterPort) : (s.setPort p).pending = s.pending := rfl
@[simp] theorem setPort_inReset (p : FormatterPort) : (s.setPort p).inReset = s.inReset := rfl
@[simp] theorem setPort_slots (p : FormatterPort) : (s.setPort p).slots = s.slots := rfl
@[simp] theorem setPort_sockets (p : FormatterPort) : (s.setPort p).sockets = s.sockets := rfl
@[simp] theorem setPort_probes (p : FormatterPort) : (s.setPort p).probes = s.probes := rfl
@[simp] theorem setPort_probePeriod (p : FormatterPort) : (s.setPort p).probePeriod = s.probePeriod := rfl
@[simp] theorem setPort_needs (p : FormatterPort) : (s.setPort p).needs = s.needs := rfl
@[simp] theorem setPort_bus (p : FormatterPort) : (s.setPort p).bus = s.bus := rfl
@[simp] theorem setPort_auth (p : FormatterPort) : (s.setPort p).auth = s.auth := rfl
@[simp] theorem setPort_history (p : FormatterPort) : (s.setPort p).history = s.history := rfl
@[simp] theorem setPort_lines (p : FormatterPort) : (s.setPort p).lines = s.lines := rfl
@[simp] theorem setPort_maps (p : FormatterPort) : (s.setPort p).maps = s.maps := rfl
@[simp] theorem setPort_supplyHold (p : FormatterPort) : (s.setPort p).supplyHold = s.supplyHold := rfl
@[simp] theorem setPort_policy (p : FormatterPort) : (s.setPort p).policy = s.policy := rfl
@[simp] theorem setPort_thresholds (p : FormatterPort) : (s.setPort p).thresholds = s.thresholds := rfl
@[simp] theorem setPort_profiles (p : FormatterPort) : (s.setPort p).profiles = s.profiles := rfl
@[simp] theorem setPort_factors (p : FormatterPort) : (s.setPort p).factors = s.factors := rfl
@[simp] theorem setPort_links (p : FormatterPort) : (s.setPort p).links = s.links := rfl
@[simp] theorem setPort_lastServedLink (p : FormatterPort) : (s.setPort p).lastServedLink = s.lastServedLink := rfl
@[simp] theorem setPort_events (p : FormatterPort) : (s.setPort p).events = s.events := rfl
@[simp] theorem setPort_port (p : FormatterPort) : (s.setPort p).port = p := rfl
@[simp] theorem setPort_freeze (p : FormatterPort) : (s.setPort p).freeze = s.freeze := rfl
@[simp] theorem setPort_slot (p : FormatterPort) (j : SlotId) : (s.setPort p).slot j = s.slot j := rfl
@[simp] theorem setPort_socket (p : FormatterPort) (j : SlotId) : (s.setPort p).socket j = s.socket j := rfl
@[simp] theorem setPort_probe (p : FormatterPort) (j : SlotId) : (s.setPort p).probe j = s.probe j := rfl
@[simp] theorem setPort_needSet (p : FormatterPort) (j : SlotId) : (s.setPort p).needSet j = s.needSet j := rfl
@[simp] theorem setPort_line (p : FormatterPort) (m : LineId) : (s.setPort p).line m = s.line m := rfl
@[simp] theorem setPort_map (p : FormatterPort) (g : LinkId) : (s.setPort p).map g = s.map g := rfl
@[simp] theorem setPort_mapEntry (p : FormatterPort) (g : LinkId) (c : ChannelId) : (s.setPort p).mapEntry g c = s.mapEntry g c := rfl
@[simp] theorem setPort_link (p : FormatterPort) (g : LinkId) : (s.setPort p).link g = s.link g := rfl
@[simp] theorem setPort_profile (p : FormatterPort) (q : ProfileId) : (s.setPort p).profile q = s.profile q := rfl
@[simp] theorem setPort_factor (p : FormatterPort) (z : Band) : (s.setPort p).factor z = s.factor z := rfl
@[simp] theorem setPort_keySlot (p : FormatterPort) (y : KeySlotId) : (s.setPort p).keySlot y = s.keySlot y := rfl

/-! ### setFreeze -/

@[simp] theorem setFreeze_pending (f : Option Freeze) : (s.setFreeze f).pending = s.pending := rfl
@[simp] theorem setFreeze_inReset (f : Option Freeze) : (s.setFreeze f).inReset = s.inReset := rfl
@[simp] theorem setFreeze_slots (f : Option Freeze) : (s.setFreeze f).slots = s.slots := rfl
@[simp] theorem setFreeze_sockets (f : Option Freeze) : (s.setFreeze f).sockets = s.sockets := rfl
@[simp] theorem setFreeze_probes (f : Option Freeze) : (s.setFreeze f).probes = s.probes := rfl
@[simp] theorem setFreeze_probePeriod (f : Option Freeze) : (s.setFreeze f).probePeriod = s.probePeriod := rfl
@[simp] theorem setFreeze_needs (f : Option Freeze) : (s.setFreeze f).needs = s.needs := rfl
@[simp] theorem setFreeze_bus (f : Option Freeze) : (s.setFreeze f).bus = s.bus := rfl
@[simp] theorem setFreeze_auth (f : Option Freeze) : (s.setFreeze f).auth = s.auth := rfl
@[simp] theorem setFreeze_history (f : Option Freeze) : (s.setFreeze f).history = s.history := rfl
@[simp] theorem setFreeze_lines (f : Option Freeze) : (s.setFreeze f).lines = s.lines := rfl
@[simp] theorem setFreeze_maps (f : Option Freeze) : (s.setFreeze f).maps = s.maps := rfl
@[simp] theorem setFreeze_supplyHold (f : Option Freeze) : (s.setFreeze f).supplyHold = s.supplyHold := rfl
@[simp] theorem setFreeze_policy (f : Option Freeze) : (s.setFreeze f).policy = s.policy := rfl
@[simp] theorem setFreeze_thresholds (f : Option Freeze) : (s.setFreeze f).thresholds = s.thresholds := rfl
@[simp] theorem setFreeze_profiles (f : Option Freeze) : (s.setFreeze f).profiles = s.profiles := rfl
@[simp] theorem setFreeze_factors (f : Option Freeze) : (s.setFreeze f).factors = s.factors := rfl
@[simp] theorem setFreeze_links (f : Option Freeze) : (s.setFreeze f).links = s.links := rfl
@[simp] theorem setFreeze_lastServedLink (f : Option Freeze) : (s.setFreeze f).lastServedLink = s.lastServedLink := rfl
@[simp] theorem setFreeze_events (f : Option Freeze) : (s.setFreeze f).events = s.events := rfl
@[simp] theorem setFreeze_port (f : Option Freeze) : (s.setFreeze f).port = s.port := rfl
@[simp] theorem setFreeze_freeze (f : Option Freeze) : (s.setFreeze f).freeze = f := rfl
@[simp] theorem setFreeze_slot (f : Option Freeze) (j : SlotId) : (s.setFreeze f).slot j = s.slot j := rfl
@[simp] theorem setFreeze_socket (f : Option Freeze) (j : SlotId) : (s.setFreeze f).socket j = s.socket j := rfl
@[simp] theorem setFreeze_probe (f : Option Freeze) (j : SlotId) : (s.setFreeze f).probe j = s.probe j := rfl
@[simp] theorem setFreeze_needSet (f : Option Freeze) (j : SlotId) : (s.setFreeze f).needSet j = s.needSet j := rfl
@[simp] theorem setFreeze_line (f : Option Freeze) (m : LineId) : (s.setFreeze f).line m = s.line m := rfl
@[simp] theorem setFreeze_map (f : Option Freeze) (g : LinkId) : (s.setFreeze f).map g = s.map g := rfl
@[simp] theorem setFreeze_mapEntry (f : Option Freeze) (g : LinkId) (c : ChannelId) : (s.setFreeze f).mapEntry g c = s.mapEntry g c := rfl
@[simp] theorem setFreeze_link (f : Option Freeze) (g : LinkId) : (s.setFreeze f).link g = s.link g := rfl
@[simp] theorem setFreeze_profile (f : Option Freeze) (q : ProfileId) : (s.setFreeze f).profile q = s.profile q := rfl
@[simp] theorem setFreeze_factor (f : Option Freeze) (z : Band) : (s.setFreeze f).factor z = s.factor z := rfl
@[simp] theorem setFreeze_keySlot (f : Option Freeze) (y : KeySlotId) : (s.setFreeze f).keySlot y = s.keySlot y := rfl

/-! ### Reads of what a write has put there -/

theorem setSlot_slot (i j : SlotId) (r : SlotRecord) : (s.setSlot i r).slot j = if i = j then r else s.slot j := by
  simp [slot, Vector.getElem_set, Fin.ext_iff]

theorem setSocket_socket (i j : SlotId) (r : Socket) :
    (s.setSocket i r).socket j = if i = j then r else s.socket j := by
  simp [socket, Vector.getElem_set, Fin.ext_iff]

theorem setProbe_probe (i j : SlotId) (r : ProbeUnit) : (s.setProbe i r).probe j = if i = j then r else s.probe j := by
  simp [probe, Vector.getElem_set, Fin.ext_iff]

theorem setNeedSet_needSet (i j : SlotId) (n : NeedSet) :
    (s.setNeedSet i n).needSet j = if i = j then n else s.needSet j := by
  simp [needSet, Vector.getElem_set, Fin.ext_iff]

theorem setLine_line (l m : LineId) (r : LineRecord) : (s.setLine l r).line m = if l = m then r else s.line m := by
  simp [line, Vector.getElem_set, Fin.ext_iff]

theorem setMap_map (k g : LinkId) (v : Vector (Option LineId) 12) :
    (s.setMap k v).map g = if k = g then v else s.map g := by
  simp [map, Vector.getElem_set, Fin.ext_iff]

theorem setLink_link (k g : LinkId) (r : EngineLink) : (s.setLink k r).link g = if k = g then r else s.link g := by
  simp [link, Vector.getElem_set, Fin.ext_iff]

theorem setProfile_profile (p q : ProfileId) (r : Option Profile) :
    (s.setProfile p r).profile q = if p = q then r else s.profile q := by
  simp [profile, Vector.getElem_set, Fin.ext_iff]

theorem setKeySlot_keySlot (k y : KeySlotId) (r : KeySlot) :
    (s.setKeySlot k r).keySlot y = if k = y then r else s.keySlot y := by
  simp [keySlot, setKeySlot, Vector.getElem_set, Fin.ext_iff]

@[simp] theorem setSlot_slot_self (i : SlotId) (r : SlotRecord) : (s.setSlot i r).slot i = r := by
  simp [setSlot_slot]

@[simp] theorem setSocket_socket_self (i : SlotId) (r : Socket) : (s.setSocket i r).socket i = r := by
  simp [setSocket_socket]

@[simp] theorem setProbe_probe_self (i : SlotId) (r : ProbeUnit) : (s.setProbe i r).probe i = r := by
  simp [setProbe_probe]

@[simp] theorem setNeedSet_needSet_self (i : SlotId) (n : NeedSet) : (s.setNeedSet i n).needSet i = n := by
  simp [setNeedSet_needSet]

@[simp] theorem setLine_line_self (l : LineId) (r : LineRecord) : (s.setLine l r).line l = r := by
  simp [setLine_line]

@[simp] theorem setLink_link_self (k : LinkId) (r : EngineLink) : (s.setLink k r).link k = r := by
  simp [setLink_link]

end Sys2Proof.Machine.State
end

