-- ==== Sys2Proof/Laws/Frames.lean ====
section
/-! SUPPORT. What no operation on slots, lines and grants touches: one lemma for each shared operation of
Machine/Ops.lean, Flags.lean, Levels.lean and Slots.lean. -/

namespace Sys2Proof.Machine

/-- The blocks that the work of the Slot Table and the Line Table leaves as they are. -/
structure Kept (s t : State) : Prop where
  pending : t.pending = s.pending
  inReset : t.inReset = s.inReset
  sockets : t.sockets = s.sockets
  probePeriod : t.probePeriod = s.probePeriod
  auth : t.auth = s.auth
  maps : t.maps = s.maps
  supplyHold : t.supplyHold = s.supplyHold
  policy : t.policy = s.policy
  thresholds : t.thresholds = s.thresholds
  profiles : t.profiles = s.profiles
  factors : t.factors = s.factors
  lastServedLink : t.lastServedLink = s.lastServedLink
  port : t.port = s.port
  freeze : t.freeze = s.freeze

theorem Kept.refl (s : State) : Kept s s := by constructor <;> rfl

theorem Kept.trans {s t u : State} (a : Kept s t) (b : Kept t u) : Kept s u := by
  constructor
  · exact b.pending.trans a.pending
  · exact b.inReset.trans a.inReset
  · exact b.sockets.trans a.sockets
  · exact b.probePeriod.trans a.probePeriod
  · exact b.auth.trans a.auth
  · exact b.maps.trans a.maps
  · exact b.supplyHold.trans a.supplyHold
  · exact b.policy.trans a.policy
  · exact b.thresholds.trans a.thresholds
  · exact b.profiles.trans a.profiles
  · exact b.factors.trans a.factors
  · exact b.lastServedLink.trans a.lastServedLink
  · exact b.port.trans a.port
  · exact b.freeze.trans a.freeze

variable {s t : State}

theorem Kept.setSlot (h : Kept s t) (i : SlotId) (r : SlotRecord) : Kept s (t.setSlot i r) :=
  h.trans (by constructor <;> rfl)
theorem Kept.setProbe (h : Kept s t) (i : SlotId) (r : ProbeUnit) : Kept s (t.setProbe i r) :=
  h.trans (by constructor <;> rfl)
theorem Kept.setNeedSet (h : Kept s t) (i : SlotId) (n : NeedSet) : Kept s (t.setNeedSet i n) :=
  h.trans (by constructor <;> rfl)
theorem Kept.setBus (h : Kept s t) (b : BusController) : Kept s (t.setBus b) := h.trans (by constructor <;> rfl)
theorem Kept.setHistory (h : Kept s t) (x : List HistoryEntry) : Kept s (t.setHistory x) :=
  h.trans (by constructor <;> rfl)
theorem Kept.setLine (h : Kept s t) (l : LineId) (r : LineRecord) : Kept s (t.setLine l r) :=
  h.trans (by constructor <;> rfl)
theorem Kept.setLink (h : Kept s t) (k : LinkId) (r : EngineLink) : Kept s (t.setLink k r) :=
  h.trans (by constructor <;> rfl)
theorem Kept.setEvents (h : Kept s t) (u : EventUnit) : Kept s (t.setEvents u) := h.trans (by constructor <;> rfl)

/-- A property that each step of a run in turn carries on holds at its end. -/
theorem inTurn_induction {α : Type} (p : State → Prop) (f : α → State → State)
    (hf : ∀ x s, p s → p (f x s)) : ∀ (xs : List α) (s : State), p s → p (inTurn f xs s)
  | [], _, h => h
  | x :: xs, s, h => inTurn_induction p f hf xs (f x s) (hf x s h)

theorem inTurn_kept {α : Type} (f : α → State → State) (hf : ∀ x s, Kept s (f x s)) (xs : List α) (s : State) :
    Kept s (inTurn f xs s) :=
  inTurn_induction (Kept s) f (fun x _ h => h.trans (hf x _)) xs s (Kept.refl s)

/-! ### Events and grant marks -/

theorem raise_kept (e : Event) (s : State) : Kept s (raise e s) := by
  unfold raise; split
  · exact Kept.refl s
  · exact (Kept.refl s).setEvents _

theorem raiseIf_kept (c : Bool) (e : Event) (s : State) : Kept s (raiseIf c e s) := by
  unfold raiseIf; split
  · exact raise_kept e s
  · exact Kept.refl s

theorem markChannel_kept (k : LinkId) (c : ChannelId) (s : State) : Kept s (markChannel k c s) := by
  unfold markChannel; split
  · exact (Kept.refl s).setLink _ _
  · exact Kept.refl s

theorem markWhere_kept (p : Option LineId → Bool) (k : LinkId) (s : State) : Kept s (markWhere p k s) := by
  refine inTurn_kept _ (fun c s => ?_) _ s
  split
  · exact markChannel_kept k c s
  · exact Kept.refl s

theorem markLine_kept (l : LineId) (s : State) : Kept s (markLine l s) :=
  inTurn_kept _ (fun k s => markWhere_kept _ k s) _ s

/-! ### Needs -/

theorem renewInFlight_kept (i : SlotId) (x : Need) (s : State) : Kept s (renewInFlight i x s) := by
  unfold renewInFlight
  repeat' split
  all_goals exact (Kept.refl s).setBus _

theorem addNeed_kept (i : SlotId) (x : Need) (s : State) : Kept s (addNeed i x s) := by
  unfold addNeed; split
  · exact renewInFlight_kept i x s
  · exact (Kept.refl s).setNeedSet _ _

theorem removeNeed_kept (i : SlotId) (x : Need) (s : State) : Kept s (removeNeed i x s) :=
  (Kept.refl s).setNeedSet _ _

theorem voidTransaction_kept (i : SlotId) (s : State) : Kept s (voidTransaction i s) := by
  unfold voidTransaction
  repeat' split
  all_goals exact (Kept.refl s).setBus _

theorem voidUsageWrite_kept (i : SlotId) (s : State) : Kept s (voidUsageWrite i s) := by
  unfold voidUsageWrite
  repeat' split
  all_goals exact (Kept.refl s).setBus _

theorem dropBusWork_kept (i : SlotId) (s : State) : Kept s (dropBusWork i s) :=
  ((Kept.refl s).setNeedSet _ _).trans (voidTransaction_kept i _)

theorem dropUsageNeeds_kept (i : SlotId) (s : State) : Kept s (dropUsageNeeds i s) :=
  ((removeNeed_kept i _ s).trans (removeNeed_kept i _ _)).trans (voidUsageWrite_kept i _)

theorem historyWrite_kept (i : SlotId) (s : State) : Kept s (historyWrite i s) := by
  unfold historyWrite
  repeat' split
  all_goals exact (Kept.refl s).setHistory _

/-! ### Measuring -/

theorem startMeasuring_kept (i : SlotId) (s : State) : Kept s (startMeasuring i s) := (Kept.refl s).setProbe _ _
theorem stopMeasuring_kept (i : SlotId) (s : State) : Kept s (stopMeasuring i s) := (Kept.refl s).setProbe _ _
theorem clearMeasuring_kept (i : SlotId) (s : State) : Kept s (clearMeasuring i s) := (Kept.refl s).setProbe _ _
theorem enterProbingRate_kept (i : SlotId) (s : State) : Kept s (enterProbingRate i s) := (Kept.refl s).setProbe _ _

theorem readyMeasuring_kept (i : SlotId) (b : SlotState) (s : State) : Kept s (readyMeasuring i b s) := by
  unfold readyMeasuring; split
  · exact (Kept.refl s).setProbe _ _
  · exact (Kept.refl s).setProbe _ _
  · exact Kept.refl s

/-! ### Phases and lines -/

theorem raiseLevels_kept (i : SlotId) (a b : Nat) (s : State) : Kept s (raiseLevels i a b s) :=
  ((raiseIf_kept _ _ s).trans (raiseIf_kept _ _ _)).trans (raiseIf_kept _ _ _)

theorem handOnEmpty_kept (i : SlotId) (s : State) : Kept s (handOnEmpty i s) := by
  unfold handOnEmpty; split
  · exact (addNeed_kept i _ s).trans (addNeed_kept i _ _)
  · exact Kept.refl s

theorem evaluatePhase_kept (i : SlotId) (s : State) : Kept s (evaluatePhase i s) := by
  simp only [evaluatePhase]; split
  · have h := ((Kept.refl s).setSlot i { s.slot i with phase := some (computedPhase s (s.slot i)) }).trans
      (raiseLevels_kept i ((s.slot i).phase.getD .normal).severity (computedPhase s (s.slot i)).severity _)
    split
    · exact h.trans (handOnEmpty_kept i _)
    · exact h
  · exact Kept.refl s

theorem commitTest_kept (i : SlotId) (s : State) : Kept s (commitTest i s) := by
  unfold commitTest; split
  · exact addNeed_kept i _ s
  · exact Kept.refl s

theorem place_kept (i : SlotId) (l : Option LineId) (r : Role) (s : State) : Kept s (place i l r s) :=
  (Kept.refl s).setSlot _ _

theorem switchTo_kept (l : LineId) (o : SlotId) (s : State) : Kept s (switchTo l o s) :=
  ((((Kept.refl s).setLine _ _).trans (place_kept o _ _ _)).trans (place_kept _ _ _ _)).trans (raise_kept _ _)

theorem switchStep_kept (l : LineId) (s : State) : Kept s (switchStep l s) := by
  unfold switchStep; split
  · exact switchTo_kept l _ s
  · exact Kept.refl s

theorem refillOnEntry_kept (l : LineId) (e : Option SlotId) (s : State) : Kept s (refillOnEntry l e s) := by
  unfold refillOnEntry; split
  · exact (Kept.refl s).setLine _ _
  · exact Kept.refl s

theorem primeDebit_kept (l : LineId) (s : State) : Kept s (primeDebit l s) := by
  simp only [primeDebit]
  exact ((((Kept.refl s).setSlot _ _).setLine _ _).trans (commitTest_kept _ _)).trans (evaluatePhase_kept _ _)

theorem laterPasses_kept (l : LineId) : ∀ (n : Nat) (s : State), Kept s (laterPasses l n s)
  | 0, s => Kept.refl s
  | n + 1, s => by
    simp only [laterPasses]; split
    · exact ((switchStep_kept l s).trans (primeDebit_kept l _)).trans (laterPasses_kept l n _)
    · exact switchStep_kept l s

theorem passes_kept (l : LineId) (e : Option SlotId) (s : State) : Kept s (passes l e s) := by
  simp only [passes]
  cases switchTarget s l with
  | some o =>
    dsimp only; split
    · exact ((switchTo_kept l o s).trans (primeDebit_kept l _)).trans (laterPasses_kept l 2 _)
    · exact switchTo_kept l o s
  | none =>
    dsimp only; split
    · exact ((refillOnEntry_kept l e s).trans (primeDebit_kept l _)).trans (laterPasses_kept l 2 _)
    · exact refillOnEntry_kept l e s

theorem raiseGrantChange_kept (l : LineId) (a b : Grant) (s : State) : Kept s (raiseGrantChange l a b s) :=
  (raiseIf_kept _ _ s).trans (raiseIf_kept _ _ _)

theorem settleGrant_kept (l : LineId) (g : Grant) (side : ActiveSide) (s : State) : Kept s (settleGrant l g side s) := by
  simp only [settleGrant]
  have h := ((Kept.refl s).setLine l { s.line l with grant := grantOf s l }).trans
    (raiseGrantChange_kept l g (grantOf s l) _)
  split
  · exact h.trans (markLine_kept l _)
  · exact h

theorem reevaluate_kept (l : LineId) (e : Option SlotId) (s : State) : Kept s (reevaluate l e s) := by
  unfold reevaluate; split
  · exact (passes_kept l e s).trans (settleGrant_kept l _ _ _)
  · exact Kept.refl s

theorem reevaluateLineOf_kept (i : SlotId) (e : Option SlotId) (s : State) : Kept s (reevaluateLineOf i e s) := by
  unfold reevaluateLineOf; split
  · exact reevaluate_kept _ e s
  · exact Kept.refl s

theorem evaluateSlot_kept (i : SlotId) (s : State) : Kept s (evaluateSlot i s) := by
  simp only [evaluateSlot]; split
  · exact (evaluatePhase_kept i s).trans (reevaluateLineOf_kept i none _)
  · exact evaluatePhase_kept i s

theorem reevaluateAll_kept (s : State) : Kept s (reevaluateAll s) :=
  inTurn_kept _ (fun l s => reevaluate_kept l none s) _ s

theorem evaluateAll_kept (s : State) : Kept s (evaluateAll s) := inTurn_kept _ evaluateSlot_kept _ s

/-! ### The life of a slot -/

theorem setProvenance_kept (i : SlotId) (p : Provenance) (s : State) : Kept s (setProvenance i p s) := by
  simp only [setProvenance]; split
  · exact ((Kept.refl s).setSlot _ _).trans (raiseIf_kept _ _ _)
  · exact (Kept.refl s).setSlot _ _

theorem reject_kept (i : SlotId) (r : RejectReason) (s : State) : Kept s (reject i r s) := by
  simp only [reject]
  refine Kept.trans ?_ (reevaluateLineOf_kept i none _)
  refine Kept.trans ?_ (raise_kept _ _)
  refine Kept.trans ?_ (stopMeasuring_kept i _)
  refine Kept.trans ?_ (dropBusWork_kept i _)
  refine Kept.setSlot ?_ _ _
  split
  · exact historyWrite_kept i s
  · exact Kept.refl s

theorem setEarlyDry_kept (i : SlotId) (s : State) : Kept s (setEarlyDry i s) :=
  ((Kept.refl s).setSlot _ _).trans (evaluatePhase_kept i _)

theorem probeDry_kept (i : SlotId) (s : State) : Kept s (probeDry i s) := by
  simp only [probeDry]
  repeat' split
  all_goals first
    | exact (raise_kept _ s).trans (setEarlyDry_kept i _)
    | exact raise_kept _ s
    | exact setEarlyDry_kept i s
    | exact Kept.refl s

theorem emptyUntracked_kept (i : SlotId) (s : State) : Kept s (emptyUntracked i s) :=
  ((Kept.refl s).setSlot _ _).trans (raise_kept _ _)

theorem seed_kept (i : SlotId) (s : State) : Kept s (seed i s) := (Kept.refl s).setSlot _ _

theorem catchUpCommit_kept (i : SlotId) (s : State) : Kept s (catchUpCommit i s) := by
  unfold catchUpCommit; split
  · exact addNeed_kept i _ s
  · exact Kept.refl s

theorem becomeReady_kept (i : SlotId) (s : State) : Kept s (becomeReady i s) :=
  ((Kept.refl s).setSlot _ _).trans (readyMeasuring_kept i _ _)

theorem readyPhase_kept (i : SlotId) (s : State) : Kept s (readyPhase i s) := by
  simp only [readyPhase]; split
  · have h := ((Kept.refl s).setSlot i { s.slot i with phase := some .normal }).trans (evaluatePhase_kept i _)
    split
    · exact h.trans (probeDry_kept i _)
    · exact h
  · have h := (Kept.refl s).setSlot i { s.slot i with phase := some .untracked }
    split
    · exact h.trans (emptyUntracked_kept i _)
    · exact h

theorem accept_kept (i : SlotId) (s : State) : Kept s (accept i s) := by
  simp only [accept]
  refine Kept.trans ?_ (reevaluateLineOf_kept i _ _)
  refine Kept.trans ?_ (raise_kept _ _)
  refine Kept.trans ?_ (readyPhase_kept i _)
  refine Kept.trans ?_ (becomeReady_kept i _)
  refine Kept.trans ?_ (historyWrite_kept i _)
  exact (seed_kept i s).trans (catchUpCommit_kept i _)

theorem judgeVerdict_kept (i : SlotId) (p : Provenance) (s : State) : Kept s (judgeVerdict i p s) := by
  unfold judgeVerdict; split
  · exact accept_kept i s
  · exact reject_kept i _ s

theorem untrackPhase_kept (i : SlotId) (s : State) : Kept s (untrackPhase i s) := by
  simp only [untrackPhase]; split
  · exact Kept.refl s
  · have h := (Kept.refl s).setSlot i { s.slot i with phase := some .untracked }
    split
    · exact h.trans (emptyUntracked_kept i _)
    · exact h

theorem changeProvenance_kept (i : SlotId) (p : Provenance) (s : State) : Kept s (changeProvenance i p s) := by
  simp only [changeProvenance]
  have h := ((setProvenance_kept i p s).trans (untrackPhase_kept i _)).trans (dropUsageNeeds_kept i _)
  refine Kept.trans ?_ (reevaluateLineOf_kept i none _)
  split
  · exact h
  · exact h.trans (reject_kept i _ _)

theorem weighEvidence_kept (i : SlotId) (p : Provenance) (s : State) : Kept s (weighEvidence i p s) := by
  unfold weighEvidence
  repeat' split
  all_goals first | exact changeProvenance_kept i p s | exact Kept.refl s

theorem enterFault_kept (i : SlotId) (s : State) : Kept s (enterFault i s) := by
  simp only [enterFault]
  refine Kept.trans ?_ (reevaluateLineOf_kept i none _)
  refine Kept.trans ?_ (historyWrite_kept i _)
  refine Kept.trans ?_ (raise_kept _ _)
  refine Kept.trans ?_ (stopMeasuring_kept i _)
  exact ((Kept.refl s).setSlot _ _).trans (dropBusWork_kept i _)

theorem insertCartridge_kept (i : SlotId) (s : State) : Kept s (insertCartridge i s) := by
  simp only [insertCartridge]
  refine Kept.trans ?_ (reevaluateLineOf_kept i none _)
  refine Kept.trans ?_ (raise_kept _ _)
  refine Kept.trans ?_ (startMeasuring_kept i _)
  exact ((Kept.refl s).setSlot _ _).trans (addNeed_kept i _ _)

theorem removeCartridge_kept (i : SlotId) (s : State) : Kept s (removeCartridge i s) := by
  simp only [removeCartridge]
  refine Kept.trans ?_ (raise_kept _ _)
  refine Kept.trans ?_ (reevaluateLineOf_kept i none _)
  refine Kept.setSlot ?_ _ _
  refine Kept.trans ?_ (clearMeasuring_kept i _)
  exact (historyWrite_kept i s).trans (dropBusWork_kept i _)

theorem retryIdentification_kept (i : SlotId) (s : State) : Kept s (retryIdentification i s) := by
  simp only [retryIdentification]
  refine Kept.trans ?_ (reevaluateLineOf_kept i none _)
  refine Kept.trans ?_ (startMeasuring_kept i _)
  exact ((historyWrite_kept i s).setSlot _ _).trans (addNeed_kept i _ _)

theorem recheckColour_kept (c : BitVec 4) (i : SlotId) (s : State) : Kept s (recheckColour c i s) := by
  simp only [recheckColour]
  repeat' split
  all_goals first | exact reject_kept i _ s | exact Kept.refl s

end Sys2Proof.Machine
end

