-- ==== Sys2Proof/Tests/Slice0.lean ====
section
/-! SUPPORT. Tests: the checks of WellFormed, a witness for the hypotheses of every statement, and small tests of one
step each whose expected values are read from the manual's tables and rules. -/

namespace Sys2Proof.Tests

open Machine

-- The proofs below are checked one after another: side by side they take more threads than a small machine has.
set_option Elab.async false

/-! ## States the tests stand on -/

/-- The profile of the worked example of Table 7-5. -/
def profile9 : Profile :=
  { vs := 180, vm := 420, vl := 1050, emptyFloor := 2000000, prime := 1500000, probeSense := .longIsWet,
    probeThreshold := 800 }

/-- A cartridge of colour 3 that names profile 9 and key slot 0. -/
def cartridge (serial fill : Nat) : Identity :=
  { serial := BitVec.ofNat 64 serial, colour := 3, profile := 9, fill := fill, keyIndex := 0 }

/-- A READY GENUINE slot on line 3. -/
def readyRecord (id : Identity) (marks consumed : Nat) (phase : Phase) (primed : Bool) (role : Role) : SlotRecord :=
  { SlotRecord.vacantAt (some 3) role with
    state := .ready, provenance := some .genuine, identity := some id, committedMarks := marks, consumed := consumed,
    tracking := .tracked, phase := some phase, probeState := .wet, primed := primed, seeded := true }

/-- Line 3, fed by slot 6 with slot 11 standing by. -/
def line3 : LineRecord :=
  { LineRecord.initial with
    configured := true, colour := 3, slotA := 6, slotB := some 11, defaultProfile := 9, reserve := 5000000,
    reserveRemaining := 5000000, residue := 73500, grant := .opened }

/-- A link that is UP and has nothing to tell. -/
def upLink : EngineLink := { EngineLink.initial true with up := true }

/-- The report of Table 7-5. -/
def report7 : Report := { channel := 0, ns := 40000, nm := 25000, nl := 12000, band := 5, isPartial := false }

/-- A presence line that is asserted and settled PRESENT. -/
def presentSocket : Socket := { asserted := true, settled := .present, timer := none }

/-- A slot that is measured, with no measurement in flight. -/
def measured : ProbeUnit := { ProbeUnit.initial with measuring := true, timer := some 1000 }

/-- A slot record with the state of a slot, its socket and its measuring changed with it. -/
def seat (i : SlotId) (r : SlotRecord) (s : State) : State :=
  ((s.setSlot i r).setSocket i presentSocket).setProbe i
    (if r.state = .rejected ∨ r.state = .fault then ProbeUnit.initial else measured)

/-- The part at work: line 3 fires from slot 6, and the other slots stand in every state: slot 0 IDENTIFYING, 1
VERIFYING, 2 PROBING, 3 REJECTED, 4 FAULT, 5 VACANT, 7 READY and REFILLED, 8 FOREIGN and not accepted. -/
def shop : State :=
  let s := { State.reset with
    supplyHold := false, profiles := State.reset.profiles.set 9 (some profile9),
    lines := State.reset.lines.set 3 line3,
    links := (State.reset.links.set 0 { upLink with fifo := [report7] }).set 1 upLink,
    maps := (State.reset.maps.set 0 ((State.reset.map 0).set 0 (some 3))).set 1 ((State.reset.map 1).set 4 (some 3)),
    bus := { State.reset.bus with commitTimer := some (RunningTimer.start 60000) },
    auth := { State.reset.auth with
      reauthTimer := some (RunningTimer.start 600000),
      keys := (State.reset.auth.keys.set 0 { state := .loaded 5, interrupted := false }).set 2
        { state := .revoked, interrupted := false } },
    events := { pending := [.slot .inserted 0, .slot .accepted 6], reported := [.slot .inserted 0], mask := 1,
                attn := true } }
  let s := seat 0 { SlotRecord.vacantAt none .none with state := .identifying } s
  let s := seat 1 { SlotRecord.vacantAt none .none with state := .verifying, identity := some (cartridge 10 10000) } s
  let s := seat 2 { SlotRecord.vacantAt none .none with
    state := .probing, identity := some (cartridge 20 10000), phase := some .untracked, depleted := true } s
  let s := seat 3 { SlotRecord.vacantAt none .none with
    state := .rejected, rejectReason := some .misplaced, identity := some (cartridge 30 10000) } s
  let s := seat 4 { SlotRecord.vacantAt none .none with state := .fault, busFailures := 3 } s
  let s := seat 6 (readyRecord (cartridge 60 700000) 5 600000 .normal true .active) s
  let s := seat 7 { readyRecord (cartridge 70 700000) 5 600000 .untracked true .none with
    provenance := some .refilled, tracking := .untracked, line := none } s
  let s := seat 8 { readyRecord (cartridge 80 700000) 5 600000 .untracked true .none with
    state := .rejected, rejectReason := some .notAccepted, provenance := some (.foreign .tagMismatch), phase := none,
    tracking := .untracked, line := none } s
  let s := seat 11 (readyRecord (cartridge 110 700000) 0 0 .normal false .standby) s
  (s.setNeedSet 0 { NeedSet.empty with identify := true }).setNeedSet 1 { NeedSet.empty with challenge := true }

/-- The same part under accept foreign yes, with the serial of slot 2 in slot 1 too and slot 7 FOREIGN. -/
def lenient : State :=
  let s := { shop with policy := { shop.policy with acceptForeign := true } }
  let s := s.setSlot 1 { s.slot 1 with identity := some (cartridge 20 10000) }
  s.setSlot 7 { s.slot 7 with provenance := some (.foreign .tagMismatch) }

/-- The same part in Supply Hold. -/
def held : State :=
  { shop with
    supplyHold := true, lines := shop.lines.set 3 { line3 with grant := .closed },
    bus := { shop.bus with commitTimer := none }, auth := { shop.auth with reauthTimer := none } }

/-- The state a command leaves. -/
def after (c : Instr) (s : State) : State :=
  match exec c s with
  | .next t => t
  | .fault _ => s
  | .refused _ => s

/-- The part at work with a transaction in flight to slot `i` for need `x`, its command frame ended. -/
def serving (i : SlotId) (x : Need) (payload : Payload) : State :=
  (shop.setNeedSet i ((shop.needSet i).put x true)).setBus
    { shop.bus with
      inFlight := some { slot := i, need := x, payload := payload, renewed := false, void := false },
      timeout := some 10 }

/-! ## The laws hold of the part at work -/

theorem shop_eventLaw : EventLaw shop.events := by unfold EventLaw; decide +kernel

theorem shop_linksLaw : LinksLaw shop := by
  unfold LinksLaw IntakeLaw DownLaw LinkRanges DropTotals.inRange; decide +kernel

theorem shop_rangesLaw : RangesLaw shop := by
  refine ⟨⟨by unfold PolicyLaw; decide +kernel, by decide +kernel, by decide +kernel, by decide +kernel, ?_⟩,
    by unfold LineRanges; decide +kernel⟩
  show ∀ n : ProfileId, ∀ p ∈ shop.profile n, ProfileLaw p
  unfold ProfileLaw; decide +kernel

theorem shop_historyLaw : HistoryLaw shop.history := by unfold HistoryLaw; decide +kernel

theorem shop_keyLaw : KeyLaw shop := by
  refine ⟨by decide +kernel, ?_, by decide +kernel, by decide +kernel⟩
  intro p h
  rw [show shop.auth.programming = none by decide +kernel] at h; cases h

theorem shop_placementLaw : PlacementLaw shop := by unfold PlacementLaw; decide +kernel

theorem shop_grantLaw : GrantLaw shop := by unfold GrantLaw; decide +kernel

theorem shop_slotLaw : ∀ i : SlotId, SlotLaw (shop.slot i) := by
  intro i
  refine ⟨?_, ?_, ⟨?_, ?_, ?_, ?_, ?_⟩, ?_⟩
  · revert i; unfold FieldLaw; decide +kernel
  · revert i; unfold TrackingLaw; decide +kernel
  · revert i; decide +kernel
  · revert i; decide +kernel
  · revert i; decide +kernel
  · revert i; decide +kernel
  · revert i; show ∀ i : SlotId, ∀ id ∈ (shop.slot i).identity, _; decide +kernel
  · revert i; unfold FailureLaw; decide +kernel

theorem shop_counterLaw (i : SlotId) : CounterLaw (shop.slot i) := (shop_slotLaw i).2.2.1

theorem shop_serialLaw : SerialLaw shop := by
  have key : ∀ i j : SlotId, ((shop.slot i).state = .probing ∨ (shop.slot i).state = .ready) →
      ((shop.slot j).state = .probing ∨ (shop.slot j).state = .ready) →
      ∀ a ∈ (shop.slot i).identity, ∀ b ∈ (shop.slot j).identity, a.serial = b.serial → i = j := by decide +kernel
  intro i j a b hi hj ha hb e
  exact key i j hi hj a ha b hb e

theorem shop_profilePresent : ProfilePresent shop := by
  have key : ∀ i : SlotId, ((shop.slot i).state = .verifying ∨ (shop.slot i).state = .probing
      ∨ (shop.slot i).state = .ready
      ∨ ((shop.slot i).state = .rejected ∧ (shop.slot i).rejectReason = some .notAccepted)) →
      ∀ id ∈ (shop.slot i).identity, shop.profile id.profile ≠ none := by decide +kernel
  intro i id h hid; exact key i h id hid

theorem shop_loadedLaw : LoadedLaw shop := by
  have key : ∀ i : SlotId, ((shop.slot i).state = .probing ∨ (shop.slot i).readyGenuine = true) →
      ∀ id ∈ (shop.slot i).identity, (shop.keySlot id.keyIndex).state.isLoaded = true := by decide +kernel
  intro i id h hid; exact key i h id hid

theorem shop_slotTableLaw : SlotTableLaw shop :=
  ⟨by unfold PresenceLaw; decide +kernel, shop_slotLaw, shop_serialLaw, shop_profilePresent, shop_loadedLaw,
    by unfold EntryLaw; decide +kernel⟩

theorem shop_slotWorkLaw : SlotWorkLaw shop := by
  refine ⟨by unfold NeedLaw; decide +kernel, ?_, by unfold WireLaw; decide +kernel, by unfold ProbeLaw; decide +kernel,
    by unfold QualifyLaw; decide +kernel⟩
  intro t h
  rw [show shop.bus.inFlight = none by decide +kernel] at h; cases h

theorem shop_modeLaw : ModeLaw shop :=
  ⟨by unfold HoldLaw; decide +kernel, by unfold MapLaw; decide +kernel, by unfold PortLaw; decide +kernel,
    by unfold ResetLaw; decide +kernel⟩

theorem shop_partLaw : PartLaw shop :=
  ⟨shop_eventLaw, shop_linksLaw, shop_rangesLaw, shop_historyLaw, shop_keyLaw, shop_placementLaw, shop_grantLaw,
    shop_slotTableLaw, shop_slotWorkLaw, shop_modeLaw⟩

/-! ## More states -/

/-- The part at work with one command waiting. -/
def waiting (c : Instr) : State := { shop with pending := [c] }

theorem waiting_partLaw (c : Instr) : PartLaw (waiting c) := shop_partLaw

/-- The part in Supply Hold with one command waiting. -/
def heldWith (c : Instr) : State := { held with pending := [c] }

theorem held_placementLaw : PlacementLaw held := by unfold PlacementLaw; decide +kernel

theorem serving_placementLaw (i : SlotId) (x : Need) (p : Payload) : PlacementLaw (serving i x p) := shop_placementLaw

theorem serving_slotLaw (i j : SlotId) (x : Need) (p : Payload) : SlotLaw ((serving i x p).slot j) := shop_slotLaw j

/-- The transaction of `serving`. -/
def flight (i : SlotId) (x : Need) (payload : Payload) : Transaction :=
  { slot := i, need := x, payload := payload, renewed := false, void := false }

theorem serving_listening (i : SlotId) (x : Need) (p : Payload) : Listening (serving i x p) (flight i x p) :=
  ⟨rfl, rfl, rfl, rfl⟩

/-- The part held in reset with key slot 1 interrupted, a presence line asserted and a LINK_EN asserted. -/
def inResetState : State :=
  { State.reset with
    inReset := true,
    auth := { State.reset.auth with keys := State.reset.auth.keys.set 1 { state := .blank, interrupted := true } },
    sockets := State.reset.sockets.set 5 (Socket.initial true),
    links := State.reset.links.set 1 (EngineLink.initial true) }

/-- The part while key slot 1 is programmed. -/
def programming : State :=
  { shop with
    auth := { shop.auth with
      keys := shop.auth.keys.set 1 { state := .blank, interrupted := true },
      programming := some { keySlot := 1, key := 9, timer := 20 } },
    port := { FormatterPort.initial with state := .working } }

/-- The part at work under a report freeze. -/
def frozen : State := { shop with freeze := some { timer := RunningTimer.start 250, snapshot := liveSnapshot shop } }

/-- The part at work, its timers started again while they ran, with `ms` left. -/
def restartedWith (ms : Nat) : State :=
  { shop with
    bus := { shop.bus with commitTimer := some { left := ms, restarted := true } },
    auth := { shop.auth with reauthTimer := some { left := ms, restarted := true } },
    freeze := some { timer := { left := ms, restarted := true }, snapshot := liveSnapshot shop } }

/-- The part with a response of 6 bytes, 2 of them read. -/
def answering : State :=
  { shop with port := { FormatterPort.initial with state := .responding, response := [0xA5, 0, 0, 0, 1, 2],
                                                    readPosition := 2 } }

/-- The part at work with a measurement about to end in slot `i`, its run at 2 of a kind. -/
def measuring (i : SlotId) (kind : ResultKind) : State :=
  shop.setProbe i { measured with inFlight := some .lowPeriod, runKind := some kind, runCount := 2 }

/-- The part at work with the presence line of a slot about to be taken. -/
def bouncing (i : SlotId) (asserted : Bool) : State :=
  shop.setSocket i { shop.socket i with asserted := asserted, timer := some 0 }

/-- The part at work with only one need in the table. -/
def needing (i : SlotId) (n : NeedSet) : State :=
  { shop with needs := (Vector.replicate 16 NeedSet.empty).set i n }

/-- The part at work with a report of channel `c` at the head of link 0. -/
def firing (c : ChannelId) (s : State) : State := s.setLink 0 { s.link 0 with fifo := [{ report7 with channel := c }] }

/-- The frame of Read Slot for slot 6, and the same with its last byte wrong. -/
def readSlotFrame : List Byte := requestFrame 0x02 [6]
def brokenFrame : List Byte := readSlotFrame.dropLast ++ [0x00]

/-! ## Witnesses: the hypotheses of each statement are met, clause by clause -/

theorem witness_StepTakesFront : (waiting .selection).pending = .selection :: [] := by decide +kernel

theorem witness_EmptyQueueIsOneMillisecond : shop.pending = [] := by decide +kernel

theorem witness_OperationBegins : inResetState.inReset = true := by decide +kernel

/-- Key slot 1 interrupted and key slot 0 not, line 5 disagreeing and line 0 not, LINK_EN of link 1 and not of 0. -/
theorem witness_OperationBegins_clauses :
    (inResetState.keySlot 1).interrupted = true ∧ (inResetState.keySlot 0).interrupted = false
    ∧ (inResetState.socket 5).asserted ≠ decide ((inResetState.socket 5).settled = .present)
    ∧ (inResetState.link 1).linkEn = true ∧ (inResetState.link 0).linkEn = false := by decide +kernel

theorem witness_RequestNotReceived : requestOf (.readSlot 6) = some (0x02, [6]) ∧ inResetState.inReset = true
    ∧ programming.inReset = false ∧ programming.port.state = .working ∧ brokenFrame.head? = some 0xC3 := by
  decide +kernel

/-- The longest payload of Table 10-2, of 64 bytes, is still spelt. -/
theorem witness_FramesSpellTheirCommands : requestOf (.readSlot 6) = some (0x02, [6])
    ∧ requestOf (.unknownRequest 0x06 (List.replicate 64 0)) = some (0x06, List.replicate 64 0)
    ∧ (List.replicate 64 (0 : Byte)).length ≤ 64
    ∧ (serving 0 .identify .empty).bus.inFlight = some (flight 0 .identify .empty)
    ∧ (serving 1 .challenge (.challenge 7)).bus.inFlight = some (flight 1 .challenge (.challenge 7))
    ∧ (serving 6 .commit (.count 1)).bus.inFlight = some (flight 6 .commit (.count 1))
    ∧ (serving 6 .markDepleted .empty).bus.inFlight = some (flight 6 .markDepleted .empty) := by decide +kernel

theorem shop_takesRequests : shop.takesRequests := by unfold State.takesRequests; decide +kernel
theorem held_takesRequests : held.takesRequests := by unfold State.takesRequests; decide +kernel
theorem frozen_takesRequests : frozen.takesRequests := by unfold State.takesRequests; decide +kernel

/-- The last number of each range and the first outside it, in live state and under a freeze. -/
theorem witness_ReadRequestsAnswer : shop.takesRequests ∧ frozen.takesRequests ∧ frozen.freeze ≠ none
    ∧ (0x0F : Byte) = argByte (15 : SlotId).val ∧ 16 ≤ (0x10 : Byte).toNat
    ∧ (0x0B : Byte) = argByte (11 : LineId).val ∧ 12 ≤ (0x0C : Byte).toNat
    ∧ (0x01 : Byte) = argByte (1 : LinkId).val ∧ 2 ≤ (0x02 : Byte).toNat :=
  ⟨shop_takesRequests, frozen_takesRequests, by decide +kernel, by decide +kernel, by decide +kernel,
    by decide +kernel, by decide +kernel, by decide +kernel, by decide +kernel⟩

theorem witness_ReportFreeze : shop.takesRequests ∧ shop.inReset = false ∧ shop.freeze = none
    ∧ frozen.inReset = false
    ∧ frozen.freeze = some { timer := RunningTimer.start 250, snapshot := liveSnapshot shop }
    ∧ (restartedWith 1).freeze = some { timer := { left := 1, restarted := true }, snapshot := liveSnapshot shop }
    ∧ (restartedWith 0).freeze = some { timer := { left := 0, restarted := true }, snapshot := liveSnapshot shop } :=
  ⟨shop_takesRequests, rfl, rfl, rfl, rfl, rfl, rfl⟩

theorem witness_SnapshotStands :
    frozen.freeze = some { timer := RunningTimer.start 250, snapshot := liveSnapshot shop }
    ∧ (Instr.removal 6).wellFormed = true ∧ Instr.removal 6 ≠ .freezeReport ∧ Instr.removal 6 ≠ .releaseReport
    ∧ Instr.removal 6 ≠ .freezeExpiry ∧ Instr.removal 6 ≠ .powerOn ∧ Instr.removal 6 ≠ .resetN :=
  ⟨rfl, by decide +kernel, by decide +kernel, by decide +kernel, by decide +kernel, by decide +kernel,
    by decide +kernel⟩

theorem witness_ClearEventsRemovesReported : shop.takesRequests ∧ EventLaw shop.events
    ∧ (∀ e ∈ shop.events.reported, (2 : BitVec 24).getLsbD (e.code - 1) = false) ∧ shop.events.pending ≠ [] :=
  ⟨shop_takesRequests, shop_eventLaw, by decide +kernel, by decide +kernel⟩

theorem witness_ReadEventsAndSetMask : shop.takesRequests ∧ EventLaw shop.events := ⟨shop_takesRequests, shop_eventLaw⟩

/-- Codes 0x06 and 0x3A stand beside the table's; Read Slot takes one byte, and two are one too many. -/
theorem witness_UnknownRequestAndLength : shop.takesRequests ∧ (0x06 : Byte) ∉ requestCodes
    ∧ (List.replicate 64 (0 : Byte)).length ≤ 64 ∧ (0x3A : Byte) ∉ requestCodes ∧ (0x02 : Byte) ∈ requestCodes
    ∧ lengthAllowed (0x02 : Byte).toNat 2 = false ∧ lengthAllowed (0x02 : Byte).toNat 1 = true :=
  ⟨shop_takesRequests, by decide +kernel, by decide +kernel, by decide +kernel, by decide +kernel, by decide +kernel,
    by decide +kernel⟩

/-- A frame cut short by one byte, one of length 65, and a whole frame with a wrong CRC-16. -/
theorem witness_FrameErrorAnswered : shop.takesRequests ∧ endsInFrameError readSlotFrame.dropLast
    ∧ endsInFrameError [0xC3, 0x00] ∧ takenInFrameError [0xC3, 0x00, 0x41] ∧ takenInFrameError brokenFrame := by
  unfold takenInFrameError endsInFrameError
  exact ⟨shop_takesRequests, by decide +kernel, by decide +kernel, by decide +kernel, by decide +kernel⟩

/-- Every port state that a transfer can find; in RESPONDING one byte short of what is left, and all of it. -/
theorem witness_ReadTransferClocksOut : PortLaw shop.port ∧ PortLaw programming.port ∧ PortLaw answering.port
    ∧ 3 < (answering.port.response.drop answering.port.readPosition).length
    ∧ ¬ 4 < (answering.port.response.drop answering.port.readPosition).length := by
  unfold PortLaw
  exact ⟨by decide +kernel, by decide +kernel, by decide +kernel, by decide +kernel, by decide +kernel⟩

/-- Outside Supply Hold; the first value outside each range; slot B equal to slot A; a slot of another line. -/
theorem witness_ConfigureLineRefused : shop.takesRequests ∧ held.takesRequests ∧ shop.supplyHold = false
    ∧ held.supplyHold = true ∧ 12 ≤ (0x0C : Byte).toNat ∧ 16 ≤ (0x10 : Byte).toNat
    ∧ (16 ≤ (0xFE : Byte).toNat ∧ (0xFE : Byte) ≠ 0xFF)
    ∧ ((3 : LineId).val ≠ (0x04 : Byte).toNat ∧ (held.line 3).configured = true
        ∧ ∃ i : SlotId, (i.val = (0x0B : Byte).toNat ∨ i.val = (0xFF : Byte).toNat) ∧ (held.line 3).names i = true) :=
  ⟨shop_takesRequests, held_takesRequests, rfl, rfl, by decide +kernel, by decide +kernel, by decide +kernel,
    by decide +kernel⟩

/-- Line 3 again with its own slots, and line 11 anew with slot 15 alone. In colour 5 both of line 3's cartridges are
misplaced, in colour 3 neither. -/
theorem witness_ConfigureLineApplied : held.takesRequests ∧ held.supplyHold = true ∧ HistoryLaw held.history
    ∧ (misplacedBy held 6 (some 11) 5 6 = true ∧ misplacedBy held 6 (some 11) 5 11 = true
        ∧ misplacedBy held 6 (some 11) 3 6 = false ∧ misplacedBy held 15 none 5 15 = false)
    ∧ (some (11 : SlotId) ≠ some 6 ∧ (none : Option SlotId) ≠ some 15)
    ∧ (∀ m : LineId, m ≠ 3 → (held.line m).configured = true →
        (held.line m).names 6 = false ∧ ∀ x, some (11 : SlotId) = some x → (held.line m).names x = false)
    ∧ (∀ m : LineId, m ≠ 11 → (held.line m).configured = true →
        (held.line m).names 15 = false ∧ ∀ x, (none : Option SlotId) = some x → (held.line m).names x = false) :=
  ⟨held_takesRequests, rfl, shop_historyLaw, by decide +kernel, by decide +kernel, by decide +kernel,
    by decide +kernel⟩

theorem witness_UnconfigureLineReleases : held.takesRequests ∧ held.supplyHold = true ∧ PlacementLaw held
    ∧ (held.line 11).configured = false ∧ (held.line 3).configured = true ∧ held.freeze = none :=
  ⟨held_takesRequests, rfl, held_placementLaw, by decide +kernel, by decide +kernel, rfl⟩

/-- Each of the five faults alone at the edge of its range, and a list that has none. -/
theorem witness_MapChannelsWritesEntries : held.takesRequests ∧ shop.supplyHold = false ∧ held.supplyHold = true
    ∧ 1 + 2 * (List.replicate 31 ((0x00, 0xFF) : Byte × Byte)).length ≤ 64
    ∧ 2 ≤ (0x02 : Byte).toNat ∧ 12 < (List.replicate 13 ((0x00, 0xFF) : Byte × Byte)).length
    ∧ 12 ≤ (0x0C : Byte).toNat ∧ (0x0C : Byte) ≠ 0xFF ∧ ¬ ([0x05, 0x05] : List Byte).Nodup
    ∧ (held.line 11).configured = false
    ∧ ¬ (2 ≤ (0x01 : Byte).toNat ∨ ([(0x00, 0x03), (0x0B, 0xFF)] : List (Byte × Byte)) = []
      ∨ 12 < ([(0x00, 0x03), (0x0B, 0xFF)] : List (Byte × Byte)).length
      ∨ (∃ e ∈ ([(0x00, 0x03), (0x0B, 0xFF)] : List (Byte × Byte)), 12 ≤ e.1.toNat ∨ (12 ≤ e.2.toNat ∧ e.2 ≠ 0xFF))
      ∨ ¬ (([(0x00, 0x03), (0x0B, 0xFF)] : List (Byte × Byte)).map Prod.fst).Nodup
      ∨ (∃ e ∈ ([(0x00, 0x03), (0x0B, 0xFF)] : List (Byte × Byte)),
          ∃ m : LineId, e.2 = argByte m.val ∧ (held.line m).configured = false)) :=
  ⟨held_takesRequests, rfl, rfl, by decide +kernel, by decide +kernel, by decide +kernel, by decide +kernel,
    by decide +kernel, by decide +kernel, by decide +kernel, by decide +kernel⟩

theorem witness_LoadProfileWritesEntry : shop.takesRequests ∧ 16 ≤ (0x10 : Byte).toNat
    ∧ ((0x02 : Byte) ≠ 0x00 ∧ (0x02 : Byte) ≠ 0x01) ∧ (0x0F : Byte) = argByte (15 : ProfileId).val
    ∧ ¬ ((0 : BitVec 16) = 0 ∧ (0 : BitVec 16) = 0 ∧ (1 : BitVec 16) = 0) ∧ PlacementLaw shop
    ∧ (∀ i : SlotId, CounterLaw (shop.slot i))
    ∧ ((shop.slot 6).state = .ready ∧ (shop.slot 6).tracking = .tracked) :=
  ⟨shop_takesRequests, by decide +kernel, by decide +kernel, by decide +kernel, by decide +kernel,
    shop_placementLaw, shop_counterLaw, by decide +kernel⟩

theorem witness_FactorsAndThresholds : shop.takesRequests ∧ PlacementLaw shop ∧ ∀ i : SlotId, CounterLaw (shop.slot i) :=
  ⟨shop_takesRequests, shop_placementLaw, shop_counterLaw⟩

/-- Slot 7 is READY and REFILLED; slot 8 is REJECTED with NOT_ACCEPTED, FOREIGN, its serial its own and its line none; a
PROBING slot with the same serial, a line of another colour, and a key slot no longer LOADED. -/
theorem witness_SetPolicyReapplies_clauses :
    PlacementLaw shop ∧ HistoryLaw shop.history
    ∧ ((shop.slot 7).state = .ready ∧ (shop.slot 7).provenance = some .refilled)
    ∧ ((shop.slot 8).state = .rejected ∧ (shop.slot 8).rejectReason = some .notAccepted
        ∧ (shop.slot 8).identity = some (cartridge 80 700000)
        ∧ (shop.slot 8).provenance = some (.foreign .tagMismatch))
    ∧ SerialFree shop 8 (cartridge 80 700000).serial
    ∧ ((shop.slot 8).line.any (fun l => (shop.line l).colour != (cartridge 80 700000).colour) = false
        ∧ (some (3 : LineId)).any (fun l => (shop.line l).colour != 4) = true)
    ∧ ((shop.slot 2).state = .probing ∧ (shop.slot 2).identity.map Identity.serial = some 20)
    ∧ (rejudgedVerdict shop { cartridge 80 700000 with keyIndex := 1 } .refilled = .foreign .keyUnavailable
        ∧ rejudgedVerdict shop (cartridge 80 700000) .refilled = .refilled) := by
  unfold SerialFree
  exact ⟨shop_placementLaw, shop_historyLaw, by decide +kernel, by decide +kernel, by decide +kernel, by decide +kernel,
    by decide +kernel, by decide +kernel⟩

/-- Slot 6 is READY and GENUINE, slot 3 REJECTED for another reason than NOT_ACCEPTED. -/
theorem witness_SetPolicyReapplies : shop.takesRequests ∧ held.takesRequests
    ∧ ¬ ((shop.slot 6).state = .ready ∧ (shop.slot 6).provenance ≠ some .genuine)
    ∧ ¬ ((shop.slot 3).state = .rejected ∧ (shop.slot 3).rejectReason = some .notAccepted) :=
  ⟨shop_takesRequests, held_takesRequests, by decide +kernel, by decide +kernel⟩

/-- Slot 6 has exactly one whole mark unclaimed. -/
theorem witness_SupplyHoldEntersAndLeaves : shop.takesRequests ∧ held.takesRequests ∧ shop.supplyHold = false
    ∧ held.supplyHold = true ∧ PlacementLaw held ∧ (∀ i : SlotId, CounterLaw (shop.slot i))
    ∧ (shop.slot 6).readyGenuine = true ∧ unclaimed shop 6 = 100000
    ∧ (shop.line 3).configured = true ∧ (shop.line 3).grant ≠ .closed
    ∧ (held.link 0).up = true ∧ held.mapEntry 0 0 = some 3 :=
  ⟨shop_takesRequests, held_takesRequests, rfl, rfl, held_placementLaw, shop_counterLaw, by decide +kernel,
    by decide +kernel, by decide +kernel, by decide +kernel, by decide +kernel, by decide +kernel⟩

theorem witness_CommitNowAddsCommits : shop.takesRequests := shop_takesRequests

theorem witness_RetrySlotStartsAfresh : shop.takesRequests ∧ 16 ≤ (0x10 : Byte).toNat
    ∧ ((0x0F : Byte) = argByte (15 : SlotId).val ∧ (shop.slot 15).state ≠ .rejected ∧ (shop.slot 15).state ≠ .fault)
    ∧ ((0x03 : Byte) = argByte (3 : SlotId).val ∧ (shop.slot 3).state = .rejected)
    ∧ ((0x04 : Byte) = argByte (4 : SlotId).val ∧ (shop.slot 4).state = .fault)
    ∧ PlacementLaw shop ∧ HistoryLaw shop.history ∧ NeedLaw (shop.slot 3) (shop.needSet 3)
    ∧ NeedLaw (shop.slot 4) (shop.needSet 4) :=
  ⟨shop_takesRequests, by decide +kernel, by decide +kernel, by decide +kernel, by decide +kernel, shop_placementLaw,
    shop_historyLaw, shop_slotWorkLaw.1 3, shop_slotWorkLaw.1 4⟩

theorem witness_LoadKeyPrograms : shop.takesRequests ∧ 4 ≤ (0x04 : Byte).toNat
    ∧ (0x03 : Byte) = argByte (3 : KeySlotId).val ∧ (shop.keySlot 3).state = .blank ∧ (shop.keySlot 0).state ≠ .blank
    ∧ shop.inReset = false ∧ shop.auth.programming = none
    ∧ programming.auth.programming = some { keySlot := 1, key := 9, timer := 20 } :=
  ⟨shop_takesRequests, by decide +kernel, by decide +kernel, by decide +kernel, by decide +kernel, rfl, rfl, rfl⟩

theorem lenient_slotLaw : ∀ i : SlotId, SlotLaw (lenient.slot i) := by
  intro i
  refine ⟨?_, ?_, ⟨?_, ?_, ?_, ?_, ?_⟩, ?_⟩
  · revert i; unfold FieldLaw; decide +kernel
  · revert i; unfold TrackingLaw; decide +kernel
  · revert i; decide +kernel
  · revert i; decide +kernel
  · revert i; decide +kernel
  · revert i; decide +kernel
  · revert i; show ∀ i : SlotId, ∀ id ∈ (lenient.slot i).identity, _; decide +kernel
  · revert i; unfold FailureLaw; decide +kernel

/-- Key slot 0, which slots in VERIFYING, PROBING and READY name; key slot 3, which none names. -/
theorem witness_RevokeKeyConverts : shop.takesRequests ∧ 4 ≤ (0x04 : Byte).toNat
    ∧ (∀ i : SlotId, SlotLaw (shop.slot i)) ∧ PlacementLaw shop ∧ HistoryLaw shop.history
    ∧ (0x00 : Byte) = argByte (0 : KeySlotId).val ∧ (0x03 : Byte) = argByte (3 : KeySlotId).val
    ∧ ((shop.slot 1).identity.map Identity.keyIndex = some 0 ∧ (shop.slot 1).state = .verifying)
    ∧ ((shop.slot 2).identity.map Identity.keyIndex = some 0 ∧ (shop.slot 2).state = .probing)
    ∧ ((shop.slot 6).identity.map Identity.keyIndex = some 0 ∧ (shop.slot 6).state = .ready)
    ∧ revocationConverts shop 0 5 = false ∧ revocationMeets shop 0 3 = true ∧ revocationMeets shop 0 4 = false
    ∧ accepted shop.policy (.foreign .keyUnavailable) = false :=
  ⟨shop_takesRequests, by decide +kernel, shop_slotLaw, shop_placementLaw, shop_historyLaw, by decide +kernel,
    by decide +kernel, by decide +kernel, by decide +kernel, by decide +kernel, by decide +kernel, by decide +kernel,
    by decide +kernel, by decide +kernel⟩

/-- Under accept foreign yes: a slot whose serial stands in PROBING, one with a serial of its own, a GENUINE READY slot and
a FOREIGN one. -/
theorem witness_RevokeKeyConverts_accepted : lenient.takesRequests ∧ (∀ i : SlotId, SlotLaw (lenient.slot i))
    ∧ PlacementLaw lenient ∧ HistoryLaw lenient.history
    ∧ HeldAtTurn lenient (after (.revokeKey 0) lenient) 1 20 ∧ ¬ HeldAtTurn lenient (after (.revokeKey 0) lenient) 2 20
    ∧ (lenient.slot 6).provenance = some .genuine ∧ (lenient.slot 7).provenance = some (.foreign .tagMismatch)
    ∧ accepted lenient.policy (.foreign .keyUnavailable) = true
    ∧ accepted lenient.policy (.foreign .tagMismatch) = true :=
  ⟨⟨rfl, by decide +kernel⟩, lenient_slotLaw, by unfold PlacementLaw; decide +kernel, shop_historyLaw,
    by unfold HeldAtTurn; decide +kernel, by unfold HeldAtTurn; decide +kernel, by decide +kernel, by decide +kernel,
    by decide +kernel, by decide +kernel⟩

theorem witness_PresenceLineQualifies : (shop.socket 6).asserted = true ∧ (shop.socket 6).asserted ≠ false := by
  decide +kernel

/-- The same in a part held in reset. -/
theorem witness_PresenceLineQualifies_inReset :
    (after .resetN shop).inReset = true ∧ ((after .resetN shop).socket 6).asserted ≠ false := by decide +kernel

theorem witness_InsertionOpensIdentification :
    (bouncing 5 true).inReset = false ∧ ((bouncing 5 true).socket 5).timer.isSome = true
    ∧ ((bouncing 5 true).socket 5).asserted = true ∧ ((bouncing 5 true).socket 5).settled = .absent
    ∧ ((bouncing 5 true).slot 5).state = .vacant ∧ PlacementLaw (bouncing 5 true)
    ∧ (bouncing 5 true).needSet 5 = NeedSet.empty :=
  ⟨rfl, by decide +kernel, by decide +kernel, by decide +kernel, by decide +kernel, shop_placementLaw, by decide +kernel⟩

theorem witness_RemovalTearsDown :
    (bouncing 6 false).inReset = false ∧ ((bouncing 6 false).socket 6).timer.isSome = true
    ∧ ((bouncing 6 false).socket 6).asserted = false ∧ ((bouncing 6 false).socket 6).settled = .present
    ∧ ((bouncing 6 false).slot 6).state ≠ .vacant ∧ PlacementLaw (bouncing 6 false)
    ∧ HistoryLaw (bouncing 6 false).history :=
  ⟨rfl, by decide +kernel, by decide +kernel, by decide +kernel, by decide +kernel, shop_placementLaw, shop_historyLaw⟩

/-- Slot 0's IDENTIFY is served first among the needs of `shop`; slot 11's COMMIT, which has less than one mark, alone. -/
theorem witness_SelectionAndRetry :
    (shop.inReset = false ∧ shop.bus.inFlight = none ∧ shop.bus.retryFor = none)
    ∧ (∀ j : SlotId, ((needing 0 NeedSet.empty).needSet j).next = none)
    ∧ (ToBeServed shop 0 .identify ∧ ¬ CommitEmpty shop 0 .identify)
    ∧ (ToBeServed (needing 11 { NeedSet.empty with commit := true }) 11 .commit
        ∧ CommitEmpty (needing 11 { NeedSet.empty with commit := true }) 11 .commit)
    ∧ ((shop.needSet 0).has .identify = true ∧ (shop.needSet 0).has .commit = false) := by
  have served : ∀ (s : State) (i : SlotId) (x : Need), (s.needSet i).next = some x →
      (∀ j : SlotId, ∀ n ∈ servicePlace s j, (servicePlace s i).getD 0 ≤ n) → ToBeServed s i x :=
    fun s i x a b => ⟨a, fun j n h => b j n h⟩
  refine ⟨by decide +kernel, by decide +kernel, ⟨served _ _ _ (by decide +kernel) (by decide +kernel), ?_⟩,
    ⟨served _ _ _ (by decide +kernel) (by decide +kernel), ?_⟩, by decide +kernel⟩
  · unfold CommitEmpty; decide +kernel
  · unfold CommitEmpty; decide +kernel

/-- A retry that is due, its need held, its COMMIT empty, and its need gone. -/
theorem witness_SelectionAndRetry_retries :
    ({ shop.bus with retryFor := some (0, .identify) } : BusController).retryFor = some (0, .identify)
    ∧ ¬ CommitEmpty shop 6 .commit ∧ CommitEmpty shop 11 .commit ∧ (shop.needSet 6).has .commit = false := by
  unfold CommitEmpty; exact ⟨rfl, by decide +kernel, by decide +kernel, by decide +kernel⟩

theorem witness_FrameEndAndVoidEnd :
    (({ serving 0 .identify .empty with
        bus := { (serving 0 .identify .empty).bus with driving := some [0x20] } } : State).bus.driving ≠ none)
    ∧ Listening ((serving 6 .commit (.count 1)).setBus
        { (serving 6 .commit (.count 1)).bus with inFlight := some { flight 6 .commit (.count 1) with void := true } })
        { flight 6 .commit (.count 1) with void := true }
    ∧ ({ flight 6 .commit (.count 1) with void := true } : Transaction).void = true
    ∧ ({ flight 6 .commit (.count 1) with void := true } : Transaction).payload.suits .commit
    ∧ ((echoBus (serving 6 .commit (.count 1)).bus).ignoring = true
        ∧ (echoBus (serving 6 .commit (.count 1)).bus).inFlight = some (flight 6 .commit (.count 1))) :=
  ⟨by decide +kernel, ⟨rfl, rfl, rfl, rfl⟩, rfl, ⟨by decide, by decide⟩, rfl, rfl⟩

theorem witness_RecordIdentifiesSlot : Listening (serving 0 .identify .empty) (flight 0 .identify .empty)
    ∧ (flight 0 .identify .empty).void = false ∧ (flight 0 .identify .empty).need = .identify
    ∧ ((serving 0 .identify .empty).slot 0).state = .identifying ∧ FieldLaw ((serving 0 .identify .empty).slot 0)
    ∧ PlacementLaw (serving 0 .identify .empty) :=
  ⟨serving_listening _ _ _, rfl, rfl, by decide +kernel, (serving_slotLaw 0 0 .identify .empty).1,
    serving_placementLaw _ _ _⟩

/-- The fills and key indices at the edges of the ranges; profile 9 is present and profile 8 is not. -/
theorem witness_RecordIdentifiesSlot_clauses :
    (9999 < 10000 ∧ ¬ (10000 < 10000 ∨ 2000000 < 10000) ∧ ¬ (2000000 < 10000 ∨ 2000000 < 2000000) ∧ 2000000 < 2000001)
    ∧ (4 ≤ (0x04 : Byte).toNat ∧ ¬ 4 ≤ (0x03 : Byte).toNat)
    ∧ shop.profile 9 ≠ none ∧ shop.profile 8 = none ∧ (shop.line 3).colour ≠ 2 := by decide +kernel

theorem witness_ChallengeFormsVerdict :
    Listening (serving 1 .challenge (.challenge 7)) (flight 1 .challenge (.challenge 7))
    ∧ (flight 1 .challenge (.challenge 7)).void = false ∧ (flight 1 .challenge (.challenge 7)).need = .challenge
    ∧ ((serving 1 .challenge (.challenge 7)).slot 1).identity = some (cartridge 10 10000)
    ∧ ((serving 1 .challenge (.challenge 7)).slot 1).state = .verifying
    ∧ FieldLaw ((serving 1 .challenge (.challenge 7)).slot 1) ∧ PlacementLaw (serving 1 .challenge (.challenge 7))
    ∧ HistoryLaw (serving 1 .challenge (.challenge 7)).history
    ∧ (flight 1 .challenge (.challenge 7)).payload.suits .challenge :=
  ⟨serving_listening _ _ _, rfl, rfl, by decide +kernel, by decide +kernel, (serving_slotLaw 1 1 _ _).1,
    serving_placementLaw _ _ _, shop_historyLaw, by unfold Payload.suits; exact True.intro⟩

theorem beq_flip (tag : BitVec 64) : (tag == ~~~tag) = false := by
  refine beq_eq_false_iff_ne.mpr fun e => ?_
  have bit := congrArg (fun w : BitVec 64 => w.getLsbD 0) e
  simp at bit

/-- Each evidence of the verdict: a serial held elsewhere and one that is not, a key slot that is not LOADED and one that
is, a tag that matches and one that does not, marks below an entry's and at it, a depleted mark set and clear. -/
theorem witness_ChallengeFormsVerdict_clauses (marks : BitVec 16) (depleted : Byte) :
    serialElsewhere shop 1 60 = true ∧ serialElsewhere shop 1 10 = false
    ∧ (shop.keySlot 1).state = .blank ∧ (shop.keySlot 2).state = .revoked ∧ (shop.keySlot 0).state = .loaded 5
    ∧ (∃ tag, tagMatches shop (cartridge 10 10000) 7 marks depleted tag = true)
    ∧ (∃ tag, tagMatches shop (cartridge 10 10000) 7 marks depleted tag = false)
    ∧ ((4 : BitVec 16).toNat < 5 ∧ ¬ (5 : BitVec 16).toNat < 5) ∧ (0x01 : Byte) ≠ 0 := by
  have loaded : (shop.keySlot (cartridge 10 10000).keyIndex).state = .loaded 5 := by decide +kernel
  refine ⟨by decide +kernel, by decide +kernel, by decide +kernel, by decide +kernel, by decide +kernel,
    ⟨Config.tagFunction 5 (identityBits (cartridge 10 10000)) 7 marks (depleted != 0), ?_⟩,
    ⟨~~~ (Config.tagFunction 5 (identityBits (cartridge 10 10000)) 7 marks (depleted != 0)), ?_⟩,
    by decide, by decide⟩
  · unfold tagMatches; rw [loaded]; exact beq_self_eq_true _
  · unfold tagMatches; rw [loaded]
    exact beq_flip _

theorem witness_ChallengeJudgesReadySlot :
    Listening (serving 6 .challenge (.challenge 7)) (flight 6 .challenge (.challenge 7))
    ∧ (flight 6 .challenge (.challenge 7)).void = false ∧ (flight 6 .challenge (.challenge 7)).need = .challenge
    ∧ ((serving 6 .challenge (.challenge 7)).slot 6).identity = some (cartridge 60 700000)
    ∧ ((serving 6 .challenge (.challenge 7)).slot 6).state = .ready
    ∧ ((serving 6 .challenge (.challenge 7)).slot 6).provenance = some .genuine
    ∧ ((serving 6 .challenge (.challenge 7)).slot 6).committedMarks = 5
    ∧ SlotLaw ((serving 6 .challenge (.challenge 7)).slot 6) ∧ PlacementLaw (serving 6 .challenge (.challenge 7))
    ∧ (flight 6 .challenge (.challenge 7)).payload.suits .challenge :=
  ⟨serving_listening _ _ _, rfl, rfl, by decide +kernel, by decide +kernel, by decide +kernel, by decide +kernel,
    serving_slotLaw 6 6 _ _, serving_placementLaw _ _ _, by unfold Payload.suits; exact True.intro⟩

/-- Slot 6 holds 5 marks and one is in flight: 5, 6 and 7 returned are fewer, equal and more. -/
theorem witness_AdvanceMarksCompletes :
    Listening (serving 6 .commit (.count 1)) (flight 6 .commit (.count 1))
    ∧ (flight 6 .commit (.count 1)).void = false ∧ (flight 6 .commit (.count 1)).need = .commit
    ∧ (flight 6 .commit (.count 1)).payload = .count 1
    ∧ ((serving 6 .commit (.count 1)).slot 6).readyGenuine = true
    ∧ SlotLaw ((serving 6 .commit (.count 1)).slot 6) ∧ PlacementLaw (serving 6 .commit (.count 1))
    ∧ HistoryLaw (serving 6 .commit (.count 1)).history
    ∧ ((serving 6 .commit (.count 1)).slot 6).committedMarks + 1 = 6 :=
  ⟨serving_listening _ _ _, rfl, rfl, rfl, by decide +kernel, serving_slotLaw 6 6 _ _, serving_placementLaw _ _ _,
    shop_historyLaw, by decide +kernel⟩

theorem witness_MarkDepletedSets : Listening (serving 6 .markDepleted .empty) (flight 6 .markDepleted .empty)
    ∧ (flight 6 .markDepleted .empty).void = false ∧ (flight 6 .markDepleted .empty).need = .markDepleted
    ∧ HistoryLaw (serving 6 .markDepleted .empty).history
    ∧ ((serving 6 .markDepleted .empty).slot 6).readyGenuine = true
    ∧ ((serving 6 .markDepleted .empty).slot 6).seeded = true
    ∧ ((serving 6 .markDepleted .empty).slot 6).identity ≠ none :=
  ⟨serving_listening _ _ _, rfl, rfl, shop_historyLaw, by decide +kernel, by decide +kernel, by decide +kernel⟩

/-- Slot 6 served after two failures. -/
def failedTwice : State :=
  (serving 6 .commit (.count 1)).setSlot 6
    { readyRecord (cartridge 60 700000) 5 600000 .normal true .active with busFailures := 2 }

theorem failedTwice_placementLaw : PlacementLaw failedTwice := by unfold PlacementLaw; decide +kernel

/-- A failure in each way: the timeout, a wrong echo, a wrong CRC-8 and a status other than OK; and a third failure. -/
theorem witness_FailureCountsToFault :
    Listening (serving 6 .commit (.count 1)) (flight 6 .commit (.count 1))
    ∧ (failureBus .transactionTimeout (serving 6 .commit (.count 1)) (flight 6 .commit (.count 1))).isSome = true
    ∧ (failureBus (.transactionFailure [0x00]) (serving 6 .commit (.count 1))
        (flight 6 .commit (.count 1))).isSome = true
    ∧ (failureBus (.transactionFailure [addressByte 6, 0x01, 0x00]) (serving 6 .commit (.count 1))
        (flight 6 .commit (.count 1))).isSome = true
    ∧ (failureBus (.transactionFailure [addressByte 6, 0x01, cartridgeCrc [addressByte 6, 0x01]])
        (serving 6 .commit (.count 1)) (flight 6 .commit (.count 1))).isSome = true
    ∧ ((serving 6 .commit (.count 1)).socket 6).asserted = true
    ∧ ((serving 6 .commit (.count 1)).slot 6).busFailures < 2
    ∧ (failedTwice.slot 6).busFailures = 2 ∧ Listening failedTwice (flight 6 .commit (.count 1))
    ∧ PlacementLaw failedTwice
    ∧ PlacementLaw (serving 6 .commit (.count 1)) ∧ HistoryLaw (serving 6 .commit (.count 1)).history
    ∧ ((serving 6 .commit (.count 1)).slot 6).state ≠ .vacant :=
  ⟨serving_listening _ _ _, by decide +kernel, by decide +kernel, by decide +kernel, by decide +kernel,
    by decide +kernel, by decide +kernel, by decide +kernel, ⟨rfl, rfl, rfl, rfl⟩, failedTwice_placementLaw,
    serving_placementLaw _ _ _, shop_historyLaw, by decide +kernel⟩

theorem witness_PeriodicTimersAddNeeds : shop.inReset = false ∧ held.inReset = false
    ∧ held.auth.reauthTimer = none ∧ held.bus.commitTimer = none
    ∧ shop.auth.reauthTimer = some { left := 600000, restarted := false }
    ∧ shop.bus.commitTimer = some { left := 60000, restarted := false }
    ∧ (restartedWith 1).auth.reauthTimer = some { left := 1, restarted := true }
    ∧ (restartedWith 1).bus.commitTimer = some { left := 1, restarted := true }
    ∧ (restartedWith 0).auth.reauthTimer = some { left := 0, restarted := true }
    ∧ (restartedWith 0).bus.commitTimer = some { left := 0, restarted := true } := by decide +kernel

theorem witness_MeasurementPhases : shop.inReset = false ∧ (shop.probe 6).timer ≠ none
    ∧ (shop.probe 6).inFlight = none
    ∧ ((shop.setProbe 6 { measured with inFlight := some .excitation }).probe 6).inFlight = some .excitation
    ∧ ((shop.setProbe 6 { measured with inFlight := some .window }).probe 6).inFlight = some .window := by decide +kernel

theorem witness_MeasurementEnters : (measuring 0 .wet).inReset = false
    ∧ endedMeasurement (.probeReturnEnd 0 800) (measuring 0 .wet) = some (0, some 800)
    ∧ ((measuring 0 .wet).slot 0).state = .identifying
    ∧ endedMeasurement (.returnWindowClose 1) (measuring 1 .noReturn) = some (1, none)
    ∧ ((measuring 1 .noReturn).slot 1).state = .verifying
    ∧ ((measuring 1 .noReturn).slot 1).identity = some (cartridge 10 10000)
    ∧ (measuring 1 .noReturn).profile (cartridge 10 10000).profile = some profile9
    ∧ ((measuring 1 .noReturn).probe 1).runKind = some (resultOf profile9 none)
    ∧ ((measuring 1 .noReturn).probe 1).runCount = 2 := by decide +kernel

/-- The threshold of profile 9 is 800 µs: 800 is WET and 799 is DRY. -/
theorem witness_ProbeResolvesSlot : (measuring 2 .wet).inReset = false
    ∧ endedMeasurement (.probeReturnEnd 2 800) (measuring 2 .wet) = some (2, some 800)
    ∧ ((measuring 2 .wet).slot 2).identity = some (cartridge 20 10000)
    ∧ (measuring 2 .wet).profile (cartridge 20 10000).profile = some profile9
    ∧ ((measuring 2 .wet).slot 2).state = .probing ∧ SlotLaw ((measuring 2 .wet).slot 2)
    ∧ PlacementLaw (measuring 2 .wet) ∧ HistoryLaw (measuring 2 .wet).history
    ∧ (measuring 2 .wet).bus.inFlight = none
    ∧ (flight 1 .challenge (.challenge 7)).slot ≠ 2 ∧ ({ flight 2 .commit (.count 1) with void := true } : Transaction).void = true
    ∧ ((measuring 2 .wet).probe 2).runKind = some (resultOf profile9 (some 800))
    ∧ ((measuring 2 .wet).probe 2).runCount = 2
    ∧ resultOf profile9 (some 799) = .dry ∧ resultOf profile9 none = .noReturn :=
  ⟨rfl, by decide +kernel, by decide +kernel, by decide +kernel, by decide +kernel, shop_slotLaw 2, shop_placementLaw,
    shop_historyLaw, rfl, by decide +kernel, rfl, by decide +kernel, by decide +kernel, by decide +kernel,
    by decide +kernel⟩

theorem witness_SettlementReachesReadySlot : (measuring 6 .dry).inReset = false
    ∧ endedMeasurement (.probeReturnEnd 6 799) (measuring 6 .dry) = some (6, some 799)
    ∧ ((measuring 6 .dry).slot 6).identity = some (cartridge 60 700000)
    ∧ (measuring 6 .dry).profile (cartridge 60 700000).profile = some profile9
    ∧ ((measuring 6 .dry).slot 6).state = .ready ∧ SlotLaw ((measuring 6 .dry).slot 6)
    ∧ PlacementLaw (measuring 6 .dry)
    ∧ ((measuring 6 .dry).probe 6).runKind = some (resultOf profile9 (some 799))
    ∧ ((measuring 6 .dry).probe 6).runCount = 2
    ∧ ((shop.slot 6).tracking = .tracked ∧ (shop.slot 6).phase = some .normal ∧ shop.policy.probeTrust = true)
    ∧ (shop.slot 7).tracking = .untracked :=
  ⟨rfl, by decide +kernel, by decide +kernel, by decide +kernel, by decide +kernel, shop_slotLaw 6, shop_placementLaw,
    by decide +kernel, by decide +kernel, by decide +kernel, by decide +kernel⟩

theorem witness_LinkComesUpAndGoesDown : shop.inReset = false ∧ (shop.link 0).fifo.length ≤ 16
    ∧ (State.reset.link 0).up = false ∧ State.reset.inReset = false ∧ (shop.link 0).up = true
    ∧ inResetState.inReset = true := by decide +kernel

/-- An empty FIFO and a full one. -/
theorem witness_CountFramesFormReports : shop.inReset = false ∧ (shop.link 1).up = true
    ∧ (shop.link 1).fifo.length ≤ 16 ∧ LinkRanges (shop.link 1) ∧ (List.replicate 16 report7).length ≤ 16 :=
  ⟨rfl, by decide +kernel, by decide +kernel, (shop_linksLaw 1).2.2, by decide +kernel⟩

theorem witness_OtherFramesAct : shop.inReset = false ∧ (shop.link 0).up = true ∧ (shop.link 0).fifo.length ≤ 16
    ∧ frameIsBad [0x22, 0x00, 0x00] = true := by decide +kernel

theorem witness_BadFramesAndDownLinks : State.reset.inReset = false ∧ ([0x22] : List Byte).length ≠ 4
    ∧ engineLinkOf (.countS 0 3 500) = some 0 ∧ (State.reset.link 0).up = false := by decide +kernel

/-- A link that is DOWN, one that sends, one with nothing pending, and one that begins channel 4, mapped to line 3, or
channel 5, mapped to none. -/
theorem witness_GrantFramesSent : shop.inReset = false ∧ (State.reset.link 0).up = false
    ∧ (∀ d : ChannelId, (shop.link 0).grantPending[d.val] = false) ∧ (shop.link 1).up = true
    ∧ (shop.link 1).grantFrame = none ∧ MapLaw shop ∧ shop.mapEntry 1 4 = some 3 ∧ shop.mapEntry 1 5 = none
    ∧ (let pending := (Vector.replicate 12 false).set 4 true
       pending[(4 : ChannelId).val] = true ∧ ∀ d : ChannelId, d < 4 → pending[d.val] = false) :=
  ⟨rfl, by decide +kernel, by decide +kernel, by decide +kernel, by decide +kernel, shop_modeLaw.2.1, by decide +kernel,
    by decide +kernel, by decide +kernel⟩

/-- A report of a mapped channel and one of an unmapped channel; a READY active slot, and one that is not READY with and
without a default profile. -/
theorem witness_ReportIsAccounted : shop.inReset = false ∧ Arbitrates shop 0 ∧ (shop.link 0).fifo = [report7]
    ∧ shop.mapEntry 0 report7.channel = some 3 ∧ (shop.line 3).configured = true
    ∧ (shop.slot (shop.line 3).activeSlot).state = .ready ∧ PlacementLaw shop
    ∧ (shop.slot (shop.line 3).activeSlot).identity = some (cartridge 60 700000)
    ∧ shop.profile (cartridge 60 700000).profile = some profile9
    ∧ Arbitrates (firing 1 shop) 0 ∧ (firing 1 shop).mapEntry 0 1 = none
    ∧ ((shop.setSlot 6 (SlotRecord.vacantAt (some 3) .active)).slot (shop.line 3).activeSlot).state ≠ .ready
    ∧ shop.profile (shop.line 3).defaultProfile = some profile9 ∧ shop.profile 8 = none := by
  unfold Arbitrates
  exact ⟨rfl, by decide +kernel, by decide +kernel, by decide +kernel, by decide +kernel, by decide +kernel,
    shop_placementLaw, by decide +kernel, by decide +kernel, by decide +kernel, by decide +kernel, by decide +kernel,
    by decide +kernel, by decide +kernel⟩

theorem witness_EventLawKept : EventLaw (waiting (.removal 6)).events ∧
    ∃ t, step (waiting (.removal 6)) = .next t := ⟨shop_eventLaw, _, rfl⟩

theorem witness_LinksLawKept : LinksLaw (waiting .accountReport) ∧
    ∃ t, step (waiting .accountReport) = .next t := ⟨shop_linksLaw, _, rfl⟩

theorem witness_RangesAndHistoryLawKept : RangesLaw (waiting .accountReport)
    ∧ HistoryLaw (waiting .accountReport).history ∧ ∃ t, step (waiting .accountReport) = .next t :=
  ⟨shop_rangesLaw, shop_historyLaw, _, rfl⟩

theorem witness_KeyLawKept : KeyLaw (waiting (.loadKey 1 9)) ∧ ∃ t, step (waiting (.loadKey 1 9)) = .next t :=
  ⟨shop_keyLaw, _, rfl⟩

theorem witness_PlacementAndGrantKept : PlacementLaw (waiting .accountReport) ∧ GrantLaw (waiting .accountReport)
    ∧ ∃ t, step (waiting .accountReport) = .next t := ⟨shop_placementLaw, shop_grantLaw, _, rfl⟩

theorem witness_SlotTableLawKept : PartLaw (waiting .accountReport) ∧
    ∃ t, step (waiting .accountReport) = .next t := ⟨waiting_partLaw _, _, rfl⟩

theorem witness_SlotWorkLawKept : PartLaw (waiting .selection) ∧
    ∃ t, step (waiting .selection) = .next t := ⟨waiting_partLaw _, _, rfl⟩

theorem witness_ModeLawKept : PartLaw (waiting .enterSupplyHold) ∧
    ∃ t, step (waiting .enterSupplyHold) = .next t := ⟨waiting_partLaw _, _, rfl⟩

theorem witness_ReadySlotNeverGoesBack : PartLaw (waiting .accountReport)
    ∧ step (waiting .accountReport) = .next (after .accountReport shop) ∧ ((waiting .accountReport).slot 6).state = .ready
    ∧ ((after .accountReport shop).slot 6).state = .ready :=
  ⟨waiting_partLaw _, rfl, by decide +kernel, by decide +kernel⟩

theorem witness_DropCountsConserved : Instr.accountReport ≠ .powerOn ∧ Instr.accountReport ≠ .resetN
    ∧ exec .accountReport shop = .next (after .accountReport shop)
    ∧ ((after .accountReport shop).link 0).accepted.of .s < 281474976710655
    ∧ ((after .accountReport shop).link 0).lost.of .s < 281474976710655 :=
  ⟨by decide, by decide, rfl, by decide +kernel, by decide +kernel⟩

/-! ## WellFormed: each check refuses an ill-formed command -/

theorem test_wellFormed_mapChannels :
    (Instr.mapChannels 0 (List.replicate 31 (0, 0))).wellFormed = true
    ∧ (Instr.mapChannels 0 (List.replicate 32 (0, 0))).wellFormed = false := by decide +kernel

theorem test_wellFormed_unknownRequest_code :
    (Instr.unknownRequest 0x06 []).wellFormed = true ∧ (Instr.unknownRequest 0x08 []).wellFormed = false := by
  decide +kernel

theorem test_wellFormed_unknownRequest_length :
    (Instr.unknownRequest 0x06 (List.replicate 64 0)).wellFormed = true
    ∧ (Instr.unknownRequest 0x06 (List.replicate 65 0)).wellFormed = false := by decide +kernel

theorem test_wellFormed_frameError_good : (Instr.frameError brokenFrame).wellFormed = true
    ∧ (Instr.frameError readSlotFrame).wellFormed = false := by decide +kernel

theorem test_wellFormed_frameError_sync : (Instr.frameError [0xC3, 0x00]).wellFormed = true
    ∧ (Instr.frameError [0x3C, 0x00]).wellFormed = false := by decide +kernel

theorem test_wellFormed_countS : (Instr.countS 0 11 5).wellFormed = true
    ∧ (Instr.countS 0 12 5).wellFormed = false := by decide +kernel

theorem test_wellFormed_countM : (Instr.countM 0 11 5).wellFormed = true
    ∧ (Instr.countM 0 12 5).wellFormed = false := by decide +kernel

theorem test_wellFormed_countL : (Instr.countL 0 11 5).wellFormed = true
    ∧ (Instr.countL 0 15 5).wellFormed = false := by decide +kernel

theorem test_wellFormed_badFrame : (Instr.badFrame 0 [0x22, 0x00, 0x00]).wellFormed = true
    ∧ (Instr.badFrame 0 (engineFrameBytes 5 0 0)).wellFormed = false := by decide +kernel

/-! ## The three CRCs (R21, R93, R172) on the nine digits that catalogues of CRCs publish check values for -/

def nineDigits : List Byte := [0x31, 0x32, 0x33, 0x34, 0x35, 0x36, 0x37, 0x38, 0x39]

theorem test_portCrc : portCrc nineDigits = 0x29B1 := by decide +kernel
theorem test_engineCrc : engineCrc nineDigits = 0xF4 := by decide +kernel
/-- 0xDF is published with a final inversion, which R21 does not apply. -/
theorem test_cartridgeCrc : cartridgeCrc nineDigits = 0x20 := by decide +kernel

/-! ## Resets -/

/-- R77: power-on empties the History Table; R58: the key store survives it. -/
theorem test_powerOn : let t := after .powerOn { shop with history := [HistoryEntry.blank 7 3] }
    t.history = [] ∧ t.supplyHold = true ∧ (t.keySlot 0).state = .loaded 5 ∧ t.inReset = true := by decide +kernel

/-- R77: RESET_N keeps the History Table; R9: every map entry is none. -/
theorem test_resetN : let t := after .resetN { shop with history := [HistoryEntry.blank 7 3] }
    t.history = [HistoryEntry.blank 7 3] ∧ t.mapEntry 0 0 = none ∧ (t.slot 6).state = .vacant := by decide +kernel

/-- R41, R59, R96: what the beginning of operation finds. -/
theorem test_endOfReset : let t := after .endOfReset inResetState
    (t.keySlot 1).state = .revoked ∧ (t.socket 5).timer = some 50 ∧ (t.link 1).up = true
    ∧ (t.link 0).up = false := by decide +kernel

/-! ## Requests -/

/-- Table 10-1, Table 10-3 and R176: the reply begins with the status OK and the part number 3160 (0x0C58). -/
theorem test_readPartIdentity :
    ((after .readPartIdentity shop).port.response.drop 4).take 2 = [0x0C, 0x58]
    ∧ (after .readPartIdentity shop).port.state = .responding := by decide +kernel

/-- R175: source LIVE, and FROZEN under a freeze; R177: the state READY is the fifth of Table 1-1. -/
theorem test_readSlot : ((after (.readSlot 6) shop).port.response.drop 4).take 2 = [0x00, 0x04]
    ∧ ((after (.readSlot 6) frozen).port.response.drop 4).take 2 = [0x01, 0x04] := by decide +kernel

/-- R178: configured, colour 3, slot A 6. -/
theorem test_readLine : ((after (.readLine 3) shop).port.response.drop 4).take 4 = [0x00, 0x01, 0x03, 0x06] := by
  decide +kernel

/-- R178: link UP, LINK_EN asserted, band 4. -/
theorem test_readLink : ((after (.readLink 0) shop).port.response.drop 4).take 4 = [0x00, 0x01, 0x01, 0x04] := by
  decide +kernel

/-- R179: a count, then position 1 with its serial. -/
theorem test_readHistory :
    ((after .readHistory { shop with history := [HistoryEntry.blank 7 3] }).port.response.drop 4).take 10
      = [0x00, 0x01, 0, 0, 0, 0, 0, 0, 0, 0x07] := by decide +kernel

/-- Table 11-5, step 1: the reported pairs become the pending ones. -/
theorem test_readEvents : (after .readEvents shop).events.reported = shop.events.pending := by decide +kernel

/-- R185: kind 1 (INSERTED) is bit 0; an unreported pair stays. -/
theorem test_clearEvents : (after (.clearEvents 0xFFFFFF) shop).events.pending = [.slot .accepted 6] := by decide +kernel

/-- R186: with the kind of no pending pair unmasked, ATTN is released. -/
theorem test_setEventMask : (after (.setEventMask 0x800000) shop).events.attn = false
    ∧ (after (.setEventMask 0x000001) shop).events.attn = true := by decide +kernel

/-- R10: a reserve of 20,000,001 nL is applied as 20,000,000. R12: the grant in Supply Hold is CLOSED. -/
theorem test_configureLine : let t := after (.configureLine 3 3 6 0xFF 9 20000001) held
    (t.line 3).reserve = 20000000 ∧ (t.line 3).slotB = none ∧ (t.slot 11).line = none ∧ (t.slot 11).state = .ready := by
  decide +kernel

/-- R12: a cartridge of another colour is rejected. -/
theorem test_configureLine_colour : let t := after (.configureLine 3 5 6 0x0B 9 0) held
    (t.slot 6).rejectReason = some .misplaced ∧ (t.slot 11).rejectReason = some .misplaced := by decide +kernel

theorem test_unconfigureLine : let t := after (.unconfigureLine 3) held
    (t.line 3).configured = false ∧ (t.line 3).residue = 0 ∧ t.mapEntry 0 0 = none ∧ t.mapEntry 1 4 = none
    ∧ (t.link 1).grantPending[4] = true ∧ (t.slot 6).line = none := by decide +kernel

theorem test_mapChannels : let t := after (.mapChannels 0 [(0, 3), (11, 3)]) held
    t.mapEntry 0 11 = some 3 ∧ (t.link 0).grantPending[11] = true ∧ (t.link 0).grantPending[0] = false := by
  decide +kernel

/-- R118: a threshold of 49 is written as 50 and an empty floor above 100,000,000 as that. -/
theorem test_loadProfile : (after (.loadProfile 2 1 0 0 100000001 0 1 49) shop).profile 2
    = some { vs := 1, vm := 0, vl := 0, emptyFloor := 100000000, prime := 0, probeSense := .longIsDry,
             probeThreshold := 50 } := by decide +kernel

/-- R121: 767 is written as 768 and 1,280 as 1,279. -/
theorem test_setTemperatureFactors :
    let t := after (.setTemperatureFactors ((Vector.replicate 8 1024).set 0 767 |>.set 7 1280)) shop
    t.factor 0 = 768 ∧ t.factor 1 = 1024 ∧ t.factor 7 = 1279 := by decide +kernel

/-- R62: accept refilled no rejects the REFILLED slot 7; the GENUINE slot 6 stays. -/
theorem test_setPolicy : let t := after (.setPolicy 0 0 1 9 0 601) shop
    (t.slot 7).rejectReason = some .notAccepted ∧ (t.slot 6).state = .ready
    ∧ (t.policy.reauthPeriod, t.policy.commitQuantum, t.policy.commitPeriod) = (10, 1, 600) := by decide +kernel

/-- R62: accept foreign yes takes slot 8 from REJECTED to READY. -/
theorem test_setPolicy_accepts : let t := after (.setPolicy 1 1 1 600 5 60) shop
    (t.slot 8).state = .ready ∧ (t.slot 8).rejectReason = none ∧ (t.probe 8).measuring = true
    ∧ .slot .accepted 8 ∈ t.events.pending := by decide +kernel

/-- Slot 6 as slot 8 of 8.6: fill 200,000 µL, empty floor 12,000,000 nL. -/
def draining (consumed : Nat) (phase : Phase) : State :=
  (shop.setSlot 6 (readyRecord (cartridge 60 200000) 1600 consumed phase true .active)).setProfile 9
    (some { profile9 with emptyFloor := 12000000 })

/-- Table 8-2, step 2: low 600, critical 550, period 50 are taken as 500, 499 and 100, and the phase is CRITICAL. -/
theorem test_setThresholds : let t := after (.setThresholds 600 550 50) (draining 170100000 .low)
    (t.thresholds.low, t.thresholds.critical, t.probePeriod) = (500, 499, 100)
    ∧ (t.slot 6).phase = some .critical ∧ .slot .levelCritical 6 ∈ t.events.pending
    ∧ .slot .levelLow 6 ∉ t.events.pending := by decide +kernel

/-- Table 8-2, step 3: the phase stays CRITICAL. -/
theorem test_setThresholds_back : let s := { draining 170100000 .critical with thresholds := { low := 500, critical := 499 } }
    ((after (.setThresholds 150 50 1000) s).slot 6).phase = some .critical := by decide +kernel

/-- R16: the grant closes with LINE_CLOSED and a slot with a whole mark unclaimed gains COMMIT. -/
theorem test_enterSupplyHold : let t := after .enterSupplyHold shop
    (t.line 3).grant = .closed ∧ .line .lineClosed 3 ∈ t.events.pending ∧ t.bus.commitTimer = none
    ∧ (t.needSet 6).commit = true ∧ (t.needSet 11).commit = false := by decide +kernel

/-- R17: both timers start from a full period: 60 s and 600 s. -/
theorem test_leaveSupplyHold : let t := after .leaveSupplyHold held
    (t.line 3).grant = .opened ∧ t.bus.commitTimer = some (RunningTimer.start 60000)
    ∧ t.auth.reauthTimer = some (RunningTimer.start 600000)
    ∧ (t.link 1).grantPending[4] = true := by decide +kernel

theorem test_freezeReport :
    (after .freezeReport shop).freeze.map Freeze.timer = some { left := 250, restarted := false }
    ∧ (after .freezeReport frozen).freeze.map Freeze.timer = some { left := 250, restarted := true } := by decide +kernel
theorem test_releaseReport : (after .releaseReport frozen).freeze.isNone = true := by decide +kernel

/-- R160: slots 6 and 7 named; slot 7 is not GENUINE. -/
theorem test_commitNow : let t := after (.commitNow 0x00C0) shop
    (t.needSet 6).commit = true ∧ (t.needSet 7).commit = false := by decide +kernel

/-- R63: the rejected slot 3 keeps no identity and is identified again; its history is captured first. -/
theorem test_retrySlot : let t := after (.retrySlot 3) shop
    (t.slot 3).state = .identifying ∧ (t.slot 3).identity = none ∧ (t.needSet 3).identify = true
    ∧ t.history.map HistoryEntry.serial = [30] := by decide +kernel

/-- R59: the mark is set and the port is WORKING while the key is programmed. -/
theorem test_loadKey : let t := after (.loadKey 1 9) shop
    (t.keySlot 1).interrupted = true ∧ t.port.state = .working ∧ t.auth.programming.map Programming.timer = some 20 := by
  decide +kernel

theorem test_keyProgrammingDone : let t := after .keyProgrammingDone programming
    (t.keySlot 1) = { state := .loaded 9, interrupted := false } ∧ t.port.state = .responding := by decide +kernel

/-- R61: under accept foreign no, a READY slot of the key is rejected as FOREIGN. -/
theorem test_revokeKey : let t := after (.revokeKey 0) shop
    (t.keySlot 0).state = .revoked ∧ (t.slot 6).state = .rejected
    ∧ (t.slot 6).provenance = some (.foreign .keyUnavailable) ∧ .slot .foreignWarning 6 ∈ t.events.pending := by
  decide +kernel

/-- R61: under accept foreign yes a duplicate is rejected as one, a PROBING slot and a GENUINE one become READY and
FOREIGN with KEY_UNAVAILABLE, and a FOREIGN one keeps its cause. -/
theorem test_revokeKey_accepts : let t := after (.revokeKey 0) lenient
    ((t.slot 1).rejectReason = some .duplicate ∧ (t.slot 1).provenance = some (.foreign .duplicate))
    ∧ ((t.slot 2).state = .ready ∧ (t.slot 2).provenance = some (.foreign .keyUnavailable) ∧ (t.slot 2).seeded = true)
    ∧ ((t.slot 6).state = .ready ∧ (t.slot 6).provenance = some (.foreign .keyUnavailable)
        ∧ (t.slot 6).phase = some .untracked)
    ∧ t.slot 7 = lenient.slot 7 := by decide +kernel

/-- R173: the status byte of an empty reply to an unknown code. -/
theorem test_unknownRequest :
    (after (.unknownRequest 0x06 []) shop).port = answeredPort 6 .unknownRequest [] := by decide +kernel

theorem test_frameError : (after (.frameError brokenFrame) shop).port = answeredPort 7 .frameError [] := by decide +kernel

/-- R171: four bytes of the response are left, and then 0xFF. -/
theorem test_readTransfer : (after (.readTransfer 5) answering).port.miso = [0, 0, 1, 2, 0xFF]
    ∧ (after (.readTransfer 5) answering).port.state = .idle := by decide +kernel

/-! ## Presence -/

theorem test_presenceChange : ((after (.presenceChange 6 false) shop).socket 6).timer = some 50
    ∧ ((after (.presenceChange 6 true) (bouncing 6 false)).socket 6).timer = none := by decide +kernel

theorem test_insertion : let t := after (.insertion 5) (bouncing 5 true)
    (t.slot 5).state = .identifying ∧ (t.needSet 5).identify = true ∧ .slot .inserted 5 ∈ t.events.pending := by
  decide +kernel

/-- R43, R78: the capture takes the marks and the volume, and the line switches to slot 11. -/
theorem test_removal : let t := after (.removal 6) (bouncing 6 false)
    (t.slot 6).state = .vacant ∧ (t.slot 6).line = some 3
    ∧ t.history.map (fun e => (e.committedMarks, e.consumed)) = [(5, 600000)]
    ∧ (t.line 3).active = .b ∧ .line .switchover 3 ∈ t.events.pending := by decide +kernel

/-! ## The Cartridge Bus -/

/-- Four slots as Table 2-8 leaves them: slots 2, 5, 9 and 13 of class C after slot 5 was served. -/
def challenged : State :=
  let needs := (((shop.needs.map fun _ => NeedSet.empty).set 2 { NeedSet.empty with challenge := true }).set 5
    { NeedSet.empty with challenge := true }).set 9 { NeedSet.empty with challenge := true, commit := true }
  { shop with needs := needs.set 13 { NeedSet.empty with challenge := true, commit := true },
              bus := { shop.bus with lastServed := 5 } }

/-- Chapter 2, 2.8, step 4: slot 9 is served. -/
theorem test_selection : (after .selection challenged).bus.inFlight.map Transaction.slot = some 9
    ∧ (after .selection challenged).bus.lastServed = 9 := by decide +kernel

/-- Table 9-4, step 2: 510,000 nL uncommitted carry n = 5. -/
theorem test_selection_count :
    let s := (needing 6 { NeedSet.empty with commit := true }).setSlot 6
      (readyRecord (cartridge 60 500000) 1200 120510000 .normal true .active)
    (after .selection s).bus.inFlight.map Transaction.payload = some (.count 5) := by decide +kernel

/-- Table 9-4, step 5: the retry carries n = 10. -/
theorem test_retry :
    let s := ((needing 6 { NeedSet.empty with commit := true }).setSlot 6
      (readyRecord (cartridge 60 500000) 1200 121005000 .normal true .active)).setBus
        { shop.bus with retryFor := some (6, .commit), quiet := some 1 }
    (after .retry s).bus.inFlight.map Transaction.payload = some (.count 10) := by decide +kernel

theorem test_commandFrameEnd :
    let s := (serving 1 .challenge (.challenge 7)).setBus
      { (serving 1 .challenge (.challenge 7)).bus with driving := some [0x21], timeout := none }
    (after .commandFrameEnd s).bus.timeout = some 15 ∧ (after .commandFrameEnd s).bus.driving = none := by decide +kernel

/-- A good record of profile 9, and the same with a fill of 9,999. -/
def record (fill : BitVec 24) : RecordPayload := ⟨0x11, 3, 9, fill, 0, 65535, 1⟩

/-- R45, R52: VERIFYING, with the provisional marks held as 42,949. -/
theorem test_readRecordCompletion : let t := after (.readRecordCompletion (record 10000)) (serving 0 .identify .empty)
    (t.slot 0).state = .verifying ∧ (t.slot 0).committedMarks = 42949 ∧ (t.needSet 0).challenge = true
    ∧ (t.needSet 0).identify = false := by decide +kernel

theorem test_readRecordCompletion_range :
    ((after (.readRecordCompletion (record 9999)) (serving 0 .identify .empty)).slot 0).rejectReason
      = some .badRecord := by decide +kernel

/-- R49: with its key slot REVOKED no tag can match: FOREIGN, and rejected under accept foreign no. -/
theorem test_challengeCompletion :
    let s := serving 1 .challenge (.challenge 7)
    let t := after (.challengeCompletion 0 0 0)
      { s with auth := { s.auth with keys := s.auth.keys.set 0 { state := .revoked, interrupted := false } } }
    (t.slot 1).provenance = some (.foreign .keyUnavailable) ∧ (t.slot 1).rejectReason = some .notAccepted := by
  decide +kernel

/-- Table 5-5, step 4: a serial that a READY slot holds is rejected as DUPLICATE, and nothing is written. -/
theorem test_challengeCompletion_duplicate :
    let s := serving 1 .challenge (.challenge 7)
    let t := after (.challengeCompletion 12 0 0) (s.setSlot 1 { s.slot 1 with identity := some (cartridge 60 10000) })
    (t.slot 1).rejectReason = some .duplicate ∧ (t.slot 1).provenance = some (.foreign .duplicate) ∧ t.history = [] := by
  decide +kernel

/-- Slot 6 as slot 4 of 9.7, the retried ADVANCE MARKS in flight with n = 10. -/
def committing : State :=
  (serving 6 .commit (.count 10)).setSlot 6
    { readyRecord (cartridge 60 500000) 1200 121005000 .normal true .active with busFailures := 1 }

/-- Table 9-4, step 6: 1,215 returned for 1,210 raises consumed to 121,500,000 nL. -/
theorem test_advanceMarksCompletion : let t := after (.advanceMarksCompletion 1215) committing
    (t.slot 6).committedMarks = 1215 ∧ (t.slot 6).consumed = 121500000 ∧ (t.slot 6).busFailures = 0
    ∧ t.needSet 6 = NeedSet.empty ∧ t.history.map (fun e => (e.committedMarks, e.consumed)) = [(1215, 121500000)] := by
  decide +kernel

/-- A commit that finds the counter behind (9.7): REWOUND, and rejected under accept foreign no. -/
theorem test_advanceMarksCompletion_behind :
    let s := (serving 6 .commit (.count 5)).setSlot 6
      (readyRecord (cartridge 60 500000) 1215 122030000 .normal true .active)
    let t := after (.advanceMarksCompletion 1190) s
    (t.slot 6).rejectReason = some .notAccepted ∧ (t.slot 6).provenance = some .rewound
    ∧ t.history.map (fun e => (e.committedMarks, e.consumed, e.lastVerdict)) = [(1215, 122030000, some .rewound)]
    ∧ .line .switchover 3 ∈ t.events.pending := by decide +kernel

theorem test_markDepletedCompletion : let t := after .markDepletedCompletion (serving 6 .markDepleted .empty)
    (t.slot 6).depleted = true ∧ t.history.map HistoryEntry.depleted = [true] ∧ (t.needSet 6).markDepleted = false := by
  decide +kernel

/-- Table 9-4, step 5: a CRC error with the presence line asserted counts one and calls for a retry. -/
theorem test_transactionFailure :
    let s := (serving 6 .commit (.count 5)).setSlot 6
      (readyRecord (cartridge 60 500000) 1200 121005000 .normal true .active)
    let body : List Byte := [addressByte 6, 0x00, 0x04, 0xB5]
    let t := after (.transactionFailure (body ++ [cartridgeCrc body + 1])) s
    (t.slot 6).busFailures = 1 ∧ t.bus.retryFor = some (6, .commit) ∧ t.bus.quiet = some 1 := by decide +kernel

/-- R20: a wrong echo leaves its transaction in flight, and its timeout frees the wire for the retry. -/
theorem test_transactionFailure_echo :
    let t := after (.transactionFailure [0x00]) (serving 6 .commit (.count 1))
    (t.slot 6).busFailures = 1 ∧ t.bus.inFlight.isSome = true
    ∧ (after .transactionTimeout t).bus.inFlight = none
    ∧ (after .transactionTimeout t).bus.retryFor = some (6, .commit) := by decide +kernel

/-- Table 11-3, step 1: a failure taken while the presence line is low is not counted. R35: the third goes to FAULT. -/
theorem test_transactionTimeout :
    ((after .transactionTimeout ((serving 6 .commit (.count 1)).setSocket 6
      { presentSocket with asserted := false, timer := some 40 })).slot 6).busFailures = 0
    ∧ ((after .transactionTimeout failedTwice).slot 6).state = .fault := by decide +kernel

theorem test_voidTransactionEnd :
    let s := failedTwice.setBus { failedTwice.bus with inFlight := some { flight 6 .commit (.count 1) with void := true } }
    ((after (.voidTransactionEnd true) s).slot 6).busFailures = 0
    ∧ ((after (.voidTransactionEnd false) s).slot 6).busFailures = 2 := by decide +kernel

/-- R55: CHALLENGE goes to READY GENUINE slots alone. -/
theorem test_reauthenticationTimerExpiry : let t := after .reauthenticationTimerExpiry shop
    (t.needSet 6).challenge = true ∧ (t.needSet 7).challenge = false
    ∧ t.auth.reauthTimer = some (RunningTimer.start 600000) := by decide +kernel

/-- R159: COMMIT goes to slots with a whole mark unclaimed. -/
theorem test_commitTimerExpiry : let t := after .commitTimerExpiry shop
    (t.needSet 6).commit = true ∧ (t.needSet 11).commit = false
    ∧ t.bus.commitTimer = some (RunningTimer.start 60000) := by decide +kernel

/-- R159: a Set Policy that changes the period restarts the timer, and the expiry does not happen. -/
theorem test_commitTimerExpiry_overtaken :
    let t := after .commitTimerExpiry (after (.setPolicy 1 0 1 600 5 30) shop)
    t.bus.commitTimer = some { left := 30000, restarted := true } ∧ (t.needSet 6).commit = false
    ∧ ((after .commitTimerExpiry (restartedWith 0)).needSet 6).commit = true := by decide +kernel

theorem test_freezeExpiry : (after .freezeExpiry frozen).freeze.isNone = true
    ∧ .freezeExpired ∈ (after .freezeExpiry frozen).events.pending := by decide +kernel

/-! ## The probes -/

theorem test_probeTimerExpiry : ((after (.probeTimerExpiry 2) shop).probe 2).timer = some 20
    ∧ ((after (.probeTimerExpiry 6) shop).probe 6).inFlight = some .excitation := by decide +kernel

theorem test_excitationEnd : let s := shop.setProbe 6 { measured with inFlight := some .excitation }
    ((after (.excitationEnd 6 true) s).probe 6).inFlight = some .lowPeriod
    ∧ ((after (.excitationEnd 6 false) s).probe 6).inFlight = some .window := by decide +kernel

theorem test_lowPeriodBegin : let s := shop.setProbe 6 { measured with inFlight := some .window }
    ((after (.lowPeriodBegin 6) s).probe 6).inFlight = some .lowPeriod := by decide +kernel

/-- Table 4-4: the sixth width, 1,198 µs, settles WET and slot 2 is REFILLED; a width of 640 breaks the run. -/
theorem test_probeReturnEnd :
    ((after (.probeReturnEnd 2 1198) (measuring 2 .wet)).slot 2).provenance = some .refilled
    ∧ (((after (.probeReturnEnd 2 640) (measuring 2 .wet)).probe 2).runKind,
        ((after (.probeReturnEnd 2 640) (measuring 2 .wet)).probe 2).runCount) = (some .dry, 1) := by decide +kernel

/-- Table 4-5: the third NO_RETURN settles FAULT with PROBE_FAULT, and a tracked slot keeps its phase. -/
theorem test_returnWindowClose : let t := after (.returnWindowClose 6) (measuring 6 .noReturn)
    (t.slot 6).probeState = .fault ∧ .slot .probeFault 6 ∈ t.events.pending ∧ (t.slot 6).phase = some .normal := by
  decide +kernel

/-! ## The Engine Links and accounting -/

theorem test_linkUp : let t := after (.linkUp 1) State.reset
    (t.link 1).up = true ∧ (t.link 1).band = 4 ∧ (t.link 1).grantPending = Vector.replicate 12 true := by decide +kernel

/-- R97: an open assembly is closed as partial, and LINK_DOWN is raised. -/
theorem test_linkDown :
    let s := shop.setLink 1 { upLink with
      assembly := some { channel := 5, sCount := some 900, mCount := none, bandOpening := 4 } }
    let t := after (.linkDown 1) s
    (t.link 1).up = false ∧ (t.link 1).fifo = [⟨5, 900, 0, 0, 4, true⟩] ∧ .link .linkDown 1 ∈ t.events.pending := by
  decide +kernel

/-- Table 6-5 after frame 5: channel 5 open with S 900, and band 6. -/
def assembling : State :=
  shop.setLink 1 { upLink with
    band := 6, assembly := some { channel := 5, sCount := some 900, mCount := none, bandOpening := 4 } }

/-- Table 6-5, frame 6. -/
theorem test_countS : let t := after (.countS 1 5 300) assembling
    (t.link 1).fifo = [⟨5, 900, 0, 0, 6, true⟩]
    ∧ (t.link 1).assembly = some { channel := 5, sCount := some 300, mCount := none, bandOpening := 6 }
    ∧ .link .linkOrder 1 ∈ t.events.pending := by decide +kernel

/-- Table 6-5, frame 2. -/
theorem test_countM :
    let s := shop.setLink 1 { upLink with
      assembly := some { channel := 3, sCount := some 1200, mCount := none, bandOpening := 4 } }
    ((after (.countM 1 3 800) s).link 1).assembly
      = some { channel := 3, sCount := some 1200, mCount := some 800, bandOpening := 4 } := by decide +kernel

/-- Table 6-5, frame 7. -/
theorem test_countL :
    ((after (.countL 1 7 40) assembling).link 1).fifo = [⟨5, 900, 0, 0, 6, true⟩, ⟨7, 0, 0, 40, 6, false⟩]
    ∧ ((after (.countL 1 7 40) assembling).link 1).accepted.l = 40 := by decide +kernel

/-- Link 1 with a full FIFO and an accumulator for channel 4 (Table 6-6, after step 1). -/
def overflowing : State :=
  shop.setLink 1 { upLink with
    band := 3, fifo := List.replicate 16 ⟨2, 1, 1, 1, 3, false⟩, hold := true,
    assembly := some { channel := 1, sCount := none, mCount := some 500, bandOpening := 3 },
    accumulators := upLink.accumulators.set 4 { sSum := 1000, mSum := 0, lSum := 200, band := 3 } }

/-- Table 6-6, step 2: the spilled report is in accumulator 1. -/
theorem test_sync : let t := after (.sync 1) overflowing
    (t.link 1).accumulator 1 = { sSum := 0, mSum := 500, lSum := 0, band := 3 }
    ∧ (t.link 1).fifo.length = 16 ∧ .link .intakeOverflow 1 ∈ t.events.pending := by decide +kernel

/-- R98: a band value above 7 is taken as 7. -/
theorem test_band : ((after (.band 1 6) shop).link 1).band = 6 ∧ ((after (.band 1 9) shop).link 1).band = 7 := by
  decide +kernel

theorem test_query : ((after (.query 1) shop).link 1).grantPending = Vector.replicate 12 true := by decide +kernel

/-- Table 6-5, frame 8. -/
theorem test_badFrame : let t := after (.badFrame 1 [0x22, 0, 0, 0]) assembling
    (t.link 1).errorCount = 1 ∧ .link .linkError 1 ∈ t.events.pending
    ∧ (t.link 1).assembly = (assembling.link 1).assembly := by decide +kernel

/-- Table 6-2 and R113: channel 4 of line 3 is told OPEN with slot 6, channel 5 CLOSED with slot 15. -/
theorem test_grant :
    let told : ChannelId → Option (List Byte) := fun c =>
      ((after (.grant 1) (shop.setLink 1 { upLink with
        grantPending := (Vector.replicate 12 false).set c true })).link 1).grantFrame.map (fun g => g.bytes.take 3)
    told 4 = some [0x84, 0x02, 0x06] ∧ told 5 = some [0x85, 0x00, 0x0F] := by decide +kernel

theorem test_grantFrameEnd :
    let s := shop.setLink 1 { upLink with grantFrame := some { channel := 4, bytes := [0x84, 0x02, 0x06, 0x00] } }
    ((after (.grantFrameEnd 1) s).link 1).grantFrame = none := by decide +kernel

/-- The factors of 7.9: band 5 is 1,075 and band 2 is 1,000. -/
def warmed (s : State) : State := { s with factors := (s.factors.set 5 1075).set 2 1000 }

/-- Table 7-5: a debit of 318 nL and a residue of 82,582 cpL. -/
theorem test_accountReport : let t := after .accountReport (warmed shop)
    (t.slot 6).consumed = 600318 ∧ (t.line 3).residue = 82582 ∧ (t.line 3).debited = 318
    ∧ ((t.line 3).dropsS, (t.line 3).dropsM, (t.line 3).dropsL) = (40000, 25000, 12000) := by decide +kernel

/-- Table 7-6, steps 1 to 3: the report that empties slot 6 switches line 3 to slot 11 and takes its prime. -/
theorem test_accountReport_switchover :
    let t := after .accountReport (warmed (shop.setSlot 6
      (readyRecord (cartridge 60 700000) 6975 697999750 .critical true .active)))
    (t.slot 6).consumed = 698000068 ∧ (t.slot 6).phase = some .empty ∧ (t.slot 11).consumed = 1500000
    ∧ (t.line 3).debited = 1500318 ∧ (t.line 3).active = .b
    ∧ t.needSet 6 = { NeedSet.empty with commit := true, markDepleted := true } ∧ (t.needSet 11).commit = true
    ∧ .slot .levelEmpty 6 ∈ t.events.pending ∧ .line .switchover 3 ∈ t.events.pending := by decide +kernel

/-! ## The step -/

/-- R41 counts 50 ms: a millisecond on an empty queue takes one off (log entry 7). -/
theorem test_step_idle : (match step (bouncing 6 false) with
    | .next t => (t.probe 6).timer
    | .fault _ => none
    | .refused _ => none) = some 999 := by decide +kernel

/-- The command at the front is executed and leaves the queue. -/
theorem test_step_front : (match step { shop with pending := [.freezeReport, .removal 6] } with
    | .next t => (t.pending, t.freeze.isSome)
    | .fault _ => ([], false)
    | .refused _ => ([], false)) = ([.removal 6], true) := by decide +kernel

end Sys2Proof.Tests
end

/-! PROOFS. Chapter 1: what Configure Line's unconfigure form and Map Channels do (R13, R15). A request's answer, a
run in turn over cells of the state, the channel maps with their grant-pending flags, and then the two requests. -/

namespace Sys2Proof.Machine

/-! ### A request and its answer -/

/-- A request that the port takes (R172, R173): where its work leaves the port to the transfer, the next state is the
work's with the answer on the port. -/
theorem serve_answers {s t : State} {n : Nat} {work : Service} {r : Reply} (hs : s.takesRequests) (hn : n ≤ 64)
    (hwork : work (s.setPort (s.port.takenFrame (6 + n))) = (t, some r))
    (hport : t.port = s.port.takenFrame (6 + n)) :
    serve n work s = { t with port := answeredPort (6 + n) r.status r.payload } := by
  obtain ⟨hreset, hidle⟩ := hs
  have hlen : ¬ 64 < n := by omega
  have hport' : t.port.respond r = answeredPort (6 + n) r.status r.payload := by rw [hport]; rfl
  simp only [serve, hreset, hidle, hlen, hwork, respond, hport', if_false, Bool.false_eq_true]
  rfl

/-- A request that its work answers at once, with an empty payload, changes the port alone. -/
theorem serve_answer_only {s : State} {n : Nat} {work : Service} {status : Status} (hs : s.takesRequests)
    (hn : n ≤ 64)
    (hwork : work (s.setPort (s.port.takenFrame (6 + n))) = answer status (s.setPort (s.port.takenFrame (6 + n)))) :
    serve n work s = s.answered (6 + n) status [] :=
  serve_answers hs hn hwork rfl

/-! ### Work in turn on cells of the state -/

section InTurn

variable {α κ γ : Type} {f : α → State → State} {key : α → κ} {cell : State → κ → γ} {write : α → γ → γ}

/-- A cell that no element of the list works on is left as it was. -/
theorem inTurn_cell_kept (hother : ∀ x s k, key x ≠ k → cell (f x s) k = cell s k) {k : κ} :
    ∀ {xs : List α} {s : State}, k ∉ xs.map key → cell (inTurn f xs s) k = cell s k
  | [], _, _ => rfl
  | x :: xs, s, hk => by
    obtain ⟨hx, hxs⟩ : k ≠ key x ∧ k ∉ xs.map key := by simpa using hk
    calc cell (inTurn f xs (f x s)) k = cell (f x s) k := inTurn_cell_kept hother hxs
      _ = cell s k := hother x s k hx.symm

/-- Where no two elements work on one cell, each has been written once, from what it held at the start. -/
theorem inTurn_cell_written (hother : ∀ x s k, key x ≠ k → cell (f x s) k = cell s k)
    (hown : ∀ x s, cell (f x s) (key x) = write x (cell s (key x))) {y : α} :
    ∀ {xs : List α} {s : State}, (xs.map key).Nodup → y ∈ xs →
      cell (inTurn f xs s) (key y) = write y (cell s (key y))
  | [], _, _, hy => nomatch hy
  | x :: xs, s, hnodup, hy => by
    obtain ⟨hx, hxs⟩ : key x ∉ xs.map key ∧ (xs.map key).Nodup := by simpa using hnodup
    rcases List.mem_cons.mp hy with rfl | hmem
    · exact (inTurn_cell_kept hother hx).trans (hown y s)
    · have hne : key x ≠ key y := fun h => hx (h ▸ List.mem_map_of_mem hmem)
      calc cell (inTurn f xs (f x s)) (key y) = write y (cell (f x s) (key y)) :=
            inTurn_cell_written hother hown hxs hmem
        _ = write y (cell s (key y)) := by rw [hother x s _ hne]

end InTurn

/-- Distinctness passes through a map that tells its arguments apart. -/
theorem nodup_map_iff_of_inj {α β : Type} {g : α → β} (hg : ∀ a b, g a = g b ↔ a = b) {xs : List α} :
    (xs.map g).Nodup ↔ xs.Nodup := by
  simp only [List.Nodup, List.pairwise_map, ne_eq, hg]

theorem pair_inj (k : LinkId) (c d : ChannelId) : (k, c) = (k, d) ↔ c = d :=
  ⟨fun h => congrArg Prod.snd h, fun h => by rw [h]⟩

theorem mem_allSlots (i : SlotId) : i ∈ allSlots := by revert i; decide
theorem mem_allChannels (c : ChannelId) : c ∈ allChannels := by revert c; decide
theorem mem_allLinks (k : LinkId) : k ∈ allLinks := by revert k; decide

/-! ### A channel of a link: its map entry and its grant-pending flag -/

theorem State.setMap_mapEntry (s : State) (k g : LinkId) (v : Vector (Option LineId) 12) (c : ChannelId) :
    (s.setMap k v).mapEntry g c = if k = g then v[c.val] else s.mapEntry g c := by
  unfold State.mapEntry
  by_cases h : k = g <;> simp [State.setMap_map, h]

/-- What a map write looks at and changes of a channel of a link. -/
structure ChannelView where
  entry   : Option LineId
  up      : Bool
  pending : Bool

/-- A channel as the state holds it; `p` is its link and its number. -/
def State.channel (s : State) (p : LinkId × ChannelId) : ChannelView :=
  { entry := s.mapEntry p.1 p.2, up := (s.link p.1).up, pending := (s.link p.1).grantPending[p.2.val] }

/-- The channel with a target written to its entry: marked if the entry changes and the link is UP (R15, R111). -/
def ChannelView.aim (v : ChannelView) (target : Option LineId) : ChannelView :=
  { v with entry := target, pending := v.pending || (v.up && target != v.entry) }

theorem ChannelView.aim_self (v : ChannelView) : v.aim v.entry = v := by simp [ChannelView.aim]

theorem markChannel_mapEntry (k g : LinkId) (c d : ChannelId) (s : State) :
    (markChannel k c s).mapEntry g d = s.mapEntry g d := by
  simp only [State.mapEntry, State.map, (markChannel_kept k c s).maps]

theorem markChannel_up (k g : LinkId) (c : ChannelId) (s : State) :
    ((markChannel k c s).link g).up = (s.link g).up := by
  unfold markChannel
  split
  · by_cases h : k = g <;> simp [State.setLink_link, h]
  · rfl

theorem markChannel_pending (k g : LinkId) (c d : ChannelId) (s : State) :
    ((markChannel k c s).link g).grantPending[d.val]
      = ((s.link g).grantPending[d.val] || ((s.link g).up && decide (k = g ∧ c = d))) := by
  unfold markChannel
  by_cases hk : k = g
  · subst hk
    cases hup : (s.link k).up
    · simp
    · by_cases hc : c = d
      · simp [hc]
      · have hv : c.val ≠ d.val := fun h => hc (Fin.ext h)
        simp [hc, hv]
  · split <;> simp [State.setLink_link, hk]

/-- Writing an entry leaves every other channel as it was. -/
theorem writeEntry_channel_other (k : LinkId) (e : ChannelId × Option LineId) (s : State) (p : LinkId × ChannelId)
    (h : (k, e.1) ≠ p) : (writeEntry k e s).channel p = s.channel p := by
  obtain ⟨g, c⟩ := p
  have hne : ¬ (k = g ∧ e.1 = c) := fun ⟨hk, hc⟩ => h (Prod.ext hk hc)
  unfold writeEntry
  split
  · rfl
  · have hentry : (s.setMap k ((s.map k).set e.1.val e.2)).mapEntry g c = s.mapEntry g c := by
      rw [State.setMap_mapEntry]
      split
      next hk =>
        have hc : e.1.val ≠ c.val := fun hc => hne ⟨hk, Fin.ext hc⟩
        simp [State.mapEntry, hk, hc]
      next => rfl
    simp [State.channel, markChannel_mapEntry, markChannel_up, markChannel_pending, hentry, hne]

/-- Writing an entry aims its own channel. -/
theorem writeEntry_channel_own (k : LinkId) (e : ChannelId × Option LineId) (s : State) :
    (writeEntry k e s).channel (k, e.1) = (s.channel (k, e.1)).aim e.2 := by
  unfold writeEntry
  split
  next h =>
    have hentry : (s.channel (k, e.1)).entry = e.2 := h
    rw [← hentry, ChannelView.aim_self]
  next h =>
    have hne : (e.2 != s.mapEntry k e.1) = true := by simpa using Ne.symm h
    simp [State.channel, ChannelView.aim, markChannel_mapEntry, markChannel_up, markChannel_pending,
      State.setMap_mapEntry, hne]

/-! ### What map writes leave -/

/-- From `s` to `t` the channel maps and the grant-pending flags alone may have changed. -/
structure Remapped (s t : State) : Prop where
  rest : t = { s with maps := t.maps, links := t.links }
  links : ∀ k : LinkId, { t.link k with grantPending := (s.link k).grantPending } = s.link k

theorem Remapped.refl (s : State) : Remapped s s := ⟨rfl, fun _ => rfl⟩

theorem Remapped.trans {s t u : State} (a : Remapped s t) (b : Remapped t u) : Remapped s u where
  rest := by
    calc u = { t with maps := u.maps, links := u.links } := b.rest
      _ = { s with maps := u.maps, links := u.links } := by rw [a.rest]
  links k := by
    calc { u.link k with grantPending := (s.link k).grantPending }
        = { { u.link k with grantPending := (t.link k).grantPending } with
              grantPending := (s.link k).grantPending } := rfl
      _ = { t.link k with grantPending := (s.link k).grantPending } := by rw [b.links k]
      _ = s.link k := a.links k

theorem Remapped.slot {s t : State} (h : Remapped s t) (i : SlotId) : t.slot i = s.slot i :=
  Eq.trans (congrArg (fun x : State => x.slot i) h.rest) rfl

theorem Remapped.line {s t : State} (h : Remapped s t) (l : LineId) : t.line l = s.line l :=
  Eq.trans (congrArg (fun x : State => x.line l) h.rest) rfl

theorem Remapped.port {s t : State} (h : Remapped s t) : t.port = s.port :=
  Eq.trans (congrArg State.port h.rest) rfl

theorem markChannel_remapped (k : LinkId) (c : ChannelId) (s : State) : Remapped s (markChannel k c s) := by
  unfold markChannel
  split
  · refine ⟨rfl, fun g => ?_⟩
    by_cases h : k = g
    · subst h; simp
    · simp [State.setLink_link, h]
  · exact Remapped.refl s

theorem writeEntry_remapped (k : LinkId) (e : ChannelId × Option LineId) (s : State) :
    Remapped s (writeEntry k e s) := by
  unfold writeEntry
  split
  · exact Remapped.refl s
  · have hset : Remapped s (s.setMap k ((s.map k).set e.1.val e.2)) := ⟨rfl, fun _ => rfl⟩
    exact hset.trans (markChannel_remapped k e.1 _)

theorem inTurn_remapped {α : Type} {f : α → State → State} (hf : ∀ x s, Remapped s (f x s)) (xs : List α)
    (s : State) : Remapped s (inTurn f xs s) :=
  inTurn_induction (Remapped s) f (fun x _ h => h.trans (hf x _)) xs s (Remapped.refl s)

/-! ### The bytes of a Map Channels entry -/

theorem toNat_argByte {n : Nat} (h : n < 256) : (argByte n).toNat = n := by
  simpa [argByte] using h

theorem argByte_toNat (b : Byte) : argByte b.toNat = b := by simp [argByte]

/-- A number of up to 256 things is read back from its byte. -/
theorem argByte_val_inj {n : Nat} (hn : n ≤ 256) {x y : Fin n} : argByte x.val = argByte y.val ↔ x = y :=
  ⟨fun h => Fin.ext (by
      rw [← toNat_argByte (Nat.lt_of_lt_of_le x.isLt hn), h, toNat_argByte (Nat.lt_of_lt_of_le y.isLt hn)]),
    fun h => by rw [h]⟩

/-- What the single-byte arguments of a range share: a byte is read as the number that it spells. -/
theorem rangeArg_eq_some {n : Nat} (hn : n ≤ 256) {b : Byte} {x : Fin n} :
    (if h : b.toNat < n then some (⟨b.toNat, h⟩ : Fin n) else none) = some x ↔ b = argByte x.val := by
  constructor
  · intro h
    split at h
    · cases h; exact (argByte_toNat b).symm
    · cases h
  · rintro rfl
    have hx : (argByte x.val).toNat = x.val := toNat_argByte (Nat.lt_of_lt_of_le x.isLt hn)
    have hlt : (argByte x.val).toNat < n := by rw [hx]; exact x.isLt
    rw [dif_pos hlt]
    exact congrArg some (Fin.ext hx)

theorem lineArg_eq_some {b : Byte} {l : LineId} : lineArg b = some l ↔ b = argByte l.val :=
  rangeArg_eq_some (by decide)

theorem channelArg_eq_some {b : Byte} {c : ChannelId} : channelArg b = some c ↔ b = argByte c.val :=
  rangeArg_eq_some (by decide)

theorem linkArg_eq_some {b : Byte} {k : LinkId} : linkArg b = some k ↔ b = argByte k.val :=
  rangeArg_eq_some (by decide)

/-- No line's byte is the code of none. -/
theorem argByte_line_ne_none (l : LineId) : argByte l.val ≠ 0xFF := by revert l; decide

theorem targetArg_eq_some {b : Byte} {t : Option LineId} : targetArg b = some t ↔ b = optionByte t := by
  unfold targetArg
  split
  next h =>
    subst h
    cases t with
    | none => simp [optionByte]
    | some l => simpa [optionByte] using (argByte_line_ne_none l).symm
  next h =>
    cases t with
    | none => simpa [optionByte] using h
    | some l => simp [optionByte, lineArg_eq_some]

/-- An optional line read back from its byte, as a number. -/
theorem optionByte_read (t : Option LineId) :
    (if optionByte t = 0xFF then none else some (optionByte t).toNat) = t.map Fin.val := by
  cases t with
  | none => rfl
  | some l =>
    have hread : (optionByte (some l)).toNat = l.val := toNat_argByte (by omega)
    have hne : optionByte (some l) ≠ 0xFF := argByte_line_ne_none l
    rw [if_neg hne, hread, Option.map_some]

/-- The two bytes of a Map Channels entry. -/
def entryBytes (d : ChannelId × Option LineId) : Byte × Byte := (argByte d.1.val, optionByte d.2)

/-- The entries of a Map Channels are read exactly from the bytes that spell them. -/
theorem mapEntries_eq_some : ∀ {entries : List (Byte × Byte)} {es : List (ChannelId × Option LineId)},
    mapEntries entries = some es ↔ entries = es.map entryBytes
  | [], es => by cases es <;> simp [mapEntries]
  | (c, t) :: rest, [] => by
    simp only [mapEntries, List.map_nil, reduceCtorEq, iff_false]
    split <;> simp
  | (c, t) :: rest, d :: es => by
    have hc := channelArg_eq_some (b := c) (c := d.1)
    have ht := targetArg_eq_some (b := t) (t := d.2)
    have hrest := mapEntries_eq_some (entries := rest) (es := es)
    rw [List.map_cons, List.cons.injEq, entryBytes, Prod.mk.injEq, ← hc, ← ht, ← hrest, mapEntries]
    split
    next hc' ht' hrest' => simp [hc', ht', hrest', Prod.ext_iff]
    next hnone =>
      simp only [reduceCtorEq, false_iff]
      rintro ⟨⟨hc', ht'⟩, hrest'⟩
      exact hnone _ _ _ hc' ht' hrest'

/-- A channel byte and a target byte in their ranges spell an entry, and no other bytes do. -/
theorem spelled_iff (e : Byte × Byte) :
    (∃ d, entryBytes d = e) ↔ ¬ (12 ≤ e.1.toNat ∨ (12 ≤ e.2.toNat ∧ e.2 ≠ 0xFF)) := by
  obtain ⟨c, t⟩ := e
  constructor
  · rintro ⟨⟨d, o⟩, h⟩
    obtain ⟨rfl, rfl⟩ := Prod.mk.inj h
    have hd : (argByte d.val).toNat = d.val := toNat_argByte (by omega)
    cases o with
    | none => simp [optionByte, hd]
    | some l =>
      have hl : (argByte l.val).toNat = l.val := toNat_argByte (by omega)
      simp only [optionByte, hd, hl]; omega
  · intro h
    obtain ⟨hc, ht⟩ : c.toNat < 12 ∧ (12 ≤ t.toNat → t = 0xFF) := by simpa using h
    by_cases hlt : t.toNat < 12
    · exact ⟨(⟨c.toNat, hc⟩, some ⟨t.toNat, hlt⟩), by simp [entryBytes, optionByte, argByte_toNat]⟩
    · exact ⟨(⟨c.toNat, hc⟩, none), by simp [entryBytes, optionByte, argByte_toNat, ht (by omega)]⟩

/-- Bytes that each spell an entry together spell a list of entries. -/
theorem exists_map_entryBytes : ∀ {entries : List (Byte × Byte)}, (∀ e ∈ entries, ∃ d, entryBytes d = e) →
    ∃ es : List (ChannelId × Option LineId), entries = es.map entryBytes
  | [], _ => ⟨[], rfl⟩
  | e :: rest, h => by
    obtain ⟨d, rfl⟩ := h e List.mem_cons_self
    obtain ⟨es, rfl⟩ := exists_map_entryBytes (entries := rest) fun x hx => h x (List.mem_cons_of_mem _ hx)
    exact ⟨d :: es, rfl⟩

/-! ### Map Channels -/

/-- The five faults of a Map Channels (R15). -/
def MapFault (link : Byte) (entries : List (Byte × Byte)) (s : State) : Prop :=
  2 ≤ link.toNat ∨ entries = [] ∨ 12 < entries.length
    ∨ (∃ e ∈ entries, 12 ≤ e.1.toNat ∨ (12 ≤ e.2.toNat ∧ e.2 ≠ 0xFF))
    ∨ ¬ (entries.map Prod.fst).Nodup
    ∨ (∃ e ∈ entries, ∃ m : LineId, e.2 = argByte m.val ∧ (s.line m).configured = false)

/-- A request with none of the faults names a link and spells its entries. -/
theorem spelled_of_not_mapFault {link : Byte} {entries : List (Byte × Byte)} {s : State}
    (h : ¬ MapFault link entries s) :
    ∃ (k : LinkId) (es : List (ChannelId × Option LineId)), link = argByte k.val ∧ entries = es.map entryBytes := by
  simp only [MapFault, not_or] at h
  obtain ⟨hlink, -, -, hrange, -, -⟩ := h
  obtain ⟨es, hes⟩ := exists_map_entryBytes fun e he => (spelled_iff e).mpr fun hbad => hrange ⟨e, he, hbad⟩
  exact ⟨⟨link.toNat, by omega⟩, es, (argByte_toNat link).symm, hes⟩

/-- The channels of a list of entries are distinct exactly where their bytes are. -/
theorem nodup_entryBytes (es : List (ChannelId × Option LineId)) :
    ((es.map entryBytes).map Prod.fst).Nodup ↔ (es.map Prod.fst).Nodup := by
  have hbytes : (es.map entryBytes).map Prod.fst = (es.map Prod.fst).map (fun c => argByte c.val) := by
    rw [List.map_map, List.map_map]; rfl
  rw [hbytes]
  exact nodup_map_iff_of_inj fun c d => argByte_val_inj (by decide)

/-- An entry's target byte names a line exactly where its target is that line. -/
theorem optionByte_eq_argByte (t : Option LineId) (m : LineId) : optionByte t = argByte m.val ↔ t = some m := by
  cases t with
  | none => simpa [optionByte] using (argByte_line_ne_none m).symm
  | some l =>
    rw [Option.some_inj]
    exact argByte_val_inj (by decide)

/-- On entries in their ranges, the faults are what the service checks. -/
theorem mapFault_spelled (k : LinkId) (es : List (ChannelId × Option LineId)) (s : State) :
    MapFault (argByte k.val) (es.map entryBytes) s ↔ entriesRefused s es = true := by
  have hlink : ¬ 2 ≤ (argByte k.val).toNat := by rw [toNat_argByte (by omega)]; omega
  have hrange : ¬ ∃ e ∈ es.map entryBytes, 12 ≤ e.1.toNat ∨ (12 ≤ e.2.toNat ∧ e.2 ≠ 0xFF) := by
    rintro ⟨e, he, hbad⟩
    obtain ⟨d, -, rfl⟩ := List.mem_map.mp he
    exact (spelled_iff (entryBytes d)).mp ⟨d, rfl⟩ hbad
  have hstands : (∃ e ∈ es.map entryBytes, ∃ m : LineId, e.2 = argByte m.val ∧ (s.line m).configured = false)
      ↔ ∃ d ∈ es, targetStands s d.2 = false := by
    constructor
    · rintro ⟨e, he, m, hm, hconf⟩
      obtain ⟨d, hd, rfl⟩ := List.mem_map.mp he
      have htarget : d.2 = some m := (optionByte_eq_argByte d.2 m).mp hm
      exact ⟨d, hd, by rw [htarget]; exact hconf⟩
    · rintro ⟨⟨c, t⟩, hd, hconf⟩
      cases t with
      | none => exact Bool.noConfusion (hconf : true = false)
      | some m => exact ⟨entryBytes (c, some m), List.mem_map_of_mem hd, m, rfl, hconf⟩
  simp only [MapFault, hlink, hrange, hstands, nodup_entryBytes, false_or]
  simp [entriesRefused, or_assoc]

theorem serviceMapChannels_denied {link : Byte} {entries : List (Byte × Byte)} {s : State}
    (h : s.supplyHold = false) : serviceMapChannels link entries s = answer .denied s := by
  simp [serviceMapChannels, h]

theorem serviceMapChannels_badArg {link : Byte} {entries : List (Byte × Byte)} {s : State}
    (hhold : s.supplyHold = true) (hfault : MapFault link entries s) :
    serviceMapChannels link entries s = answer .badArg s := by
  simp only [serviceMapChannels, hhold, Bool.true_eq_false, if_false]
  split
  next k es hk hes =>
    rw [linkArg_eq_some] at hk
    rw [mapEntries_eq_some] at hes
    subst hk hes
    rw [if_pos ((mapFault_spelled k es s).mp hfault)]
  next => rfl

theorem serviceMapChannels_ok {k : LinkId} {es : List (ChannelId × Option LineId)} {s : State}
    (hhold : s.supplyHold = true) (hok : entriesRefused s es = false) :
    serviceMapChannels (argByte k.val) (es.map entryBytes) s = answer .ok (inTurn (writeEntry k) es s) := by
  simp [serviceMapChannels, hhold, linkArg_eq_some.mpr rfl, mapEntries_eq_some.mpr rfl, hok]

/-- The target a list of entries for link `k` gives a channel, where it lists the channel. -/
def listedTarget (k : LinkId) (es : List (ChannelId × Option LineId)) (p : LinkId × ChannelId) :
    Option (Option LineId) :=
  if k = p.1 then (es.find? (fun d => d.1 == p.2)).map Prod.snd else none

/-- Writing entries with distinct channels aims each listed channel and leaves the others. -/
theorem writeEntries_channel (k : LinkId) {es : List (ChannelId × Option LineId)} (hnodup : (es.map Prod.fst).Nodup)
    (s : State) (p : LinkId × ChannelId) :
    (inTurn (writeEntry k) es s).channel p = (s.channel p).aim ((listedTarget k es p).getD (s.channel p).entry) := by
  have hkept (h : p ∉ es.map (fun d => (k, d.1))) :
      (inTurn (writeEntry k) es s).channel p = (s.channel p).aim (s.channel p).entry := by
    rw [ChannelView.aim_self]
    exact inTurn_cell_kept (fun e s p => writeEntry_channel_other k e s p) h
  unfold listedTarget
  split
  next hk =>
    obtain ⟨g, c⟩ := p
    obtain rfl : k = g := hk
    cases hfind : es.find? (fun d => d.1 == c) with
    | none =>
      refine hkept fun hmem => ?_
      obtain ⟨d, hd, hdc⟩ := List.mem_map.mp hmem
      exact List.find?_eq_none.mp hfind d hd (by simpa using hdc)
    | some d =>
      obtain rfl : d.1 = c := by simpa using List.find?_some hfind
      have hkeys : (es.map (fun d => (k, d.1))).Nodup := by
        have hpairs := (nodup_map_iff_of_inj (pair_inj k)).mpr hnodup
        rwa [List.map_map] at hpairs
      exact inTurn_cell_written (write := fun d v => v.aim d.2) (fun e s p => writeEntry_channel_other k e s p)
        (writeEntry_channel_own k) hkeys (List.mem_of_find?_eq_some hfind)
  next hk =>
    refine hkept fun hmem => ?_
    obtain ⟨d, -, rfl⟩ := List.mem_map.mp hmem
    exact hk rfl

/-- Looking a channel's byte up among the bytes of entries is looking the channel up. -/
theorem find?_entryBytes (es : List (ChannelId × Option LineId)) (c : ChannelId) :
    (es.map entryBytes).find? (fun e => e.1 == argByte c.val) = (es.find? (fun d => d.1 == c)).map entryBytes := by
  have hpred : (fun e : Byte × Byte => e.1 == argByte c.val) ∘ entryBytes = fun d => d.1 == c := by
    funext d
    exact decide_eq_decide.mpr (argByte_val_inj (by decide))
  rw [List.find?_map, hpred]

theorem exec_mapChannels (link : Byte) (entries : List (Byte × Byte)) (s : State) :
    exec (.mapChannels link entries) s
      = .next (serve (1 + 2 * entries.length) (serviceMapChannels link entries) s) := by
  rfl

/-- Settles O20: the five faults are what the service checks on entries read back from their bytes, and the accepted
entries have distinct channels, so that each aims its own channel once. -/
theorem mapChannelsWritesEntries : Obligations.MapChannelsWritesEntries := by
  intro link entries s hs hlen refused bytes
  refine ⟨fun hhold => ?denied, fun hhold hfault => ?badArg, fun hhold hok => ?accepted⟩
  case denied =>
    rw [exec_mapChannels, serve_answer_only hs hlen (serviceMapChannels_denied hhold)]
  case badArg =>
    rw [exec_mapChannels, serve_answer_only hs hlen (serviceMapChannels_badArg hhold hfault)]
  case accepted =>
    obtain ⟨j, es, rfl, rfl⟩ := spelled_of_not_mapFault hok
    have hchecks : entriesRefused s es = false := Bool.eq_false_iff.mpr fun h => hok ((mapFault_spelled j es s).mpr h)
    have hnodup : (es.map Prod.fst).Nodup := Decidable.byContradiction fun h =>
      hok ((mapFault_spelled j es s).mpr (by simp [entriesRefused, h]))
    let taken := s.setPort (s.port.takenFrame bytes)
    let written := inTurn (writeEntry j) es taken
    have hmaps : Remapped taken written := inTurn_remapped (writeEntry_remapped j) es taken
    refine ⟨{ written with port := answeredPort bytes .ok [] }, ?next, fun k => ⟨hmaps.links k, fun c => ?channel⟩,
      ?rest⟩
    case next => rw [exec_mapChannels, serve_answers hs hlen (serviceMapChannels_ok hhold hchecks) hmaps.port]
    case rest =>
      exact congrArg (fun t : State => { t with port := answeredPort bytes .ok [] }) hmaps.rest
    case channel =>
      have hview := writeEntries_channel j hnodup taken (k, c)
      have hentry : written.mapEntry k c = (listedTarget j es (k, c)).getD (s.mapEntry k c) :=
        congrArg ChannelView.entry hview
      have hpending : (written.link k).grantPending[c.val] = ((s.link k).grantPending[c.val]
          || ((s.link k).up && (listedTarget j es (k, c)).getD (s.mapEntry k c) != s.mapEntry k c)) :=
        congrArg ChannelView.pending hview
      refine ⟨?_, by rw [← hentry] at hpending; exact hpending⟩
      show (written.mapEntry k c).map Fin.val = _
      have hlink : argByte j.val = argByte k.val ↔ j = k := argByte_val_inj (by decide)
      rw [hentry, find?_entryBytes]
      simp only [listedTarget, hlink]
      split
      · cases es.find? (fun d => d.1 == c) with
        | none => rfl
        | some d => exact (optionByte_read d.2).symm
      · rfl

/-! ### The unconfigure form of Configure Line -/

theorem releaseSlots_rest (l : LineId) (keep : SlotId → Bool) (s : State) :
    releaseSlots l keep s = { s with slots := (releaseSlots l keep s).slots } := by
  refine inTurn_induction (fun t => t = { s with slots := t.slots }) _ (fun i t ht => ?_) allSlots s rfl
  split
  · rw [ht]; rfl
  · exact ht

/-- Where none is kept, exactly the slots that name the line are released (R13). -/
theorem releaseSlots_slot (l : LineId) (s : State) (i : SlotId) :
    (releaseSlots l (fun _ => false) s).slot i
      = if (s.slot i).line = some l then { s.slot i with line := none, role := .none } else s.slot i := by
  refine inTurn_cell_written (key := id) (cell := State.slot)
    (write := fun _ r => if r.line = some l then { r with line := none, role := .none } else r)
    (fun j s i hji => ?other) (fun i s => ?own) (by decide) (mem_allSlots i)
  case other =>
    have hji : j ≠ i := hji
    split <;> simp [place, State.setSlot_slot, hji]
  case own => by_cases h : (s.slot i).line = some l <;> simp [place, h]

/-- A channel once a line's entries are gone: an entry that named the line is none, and marked (R13). -/
def ChannelView.unmapped (v : ChannelView) (l : LineId) : ChannelView :=
  if v.entry = some l then v.aim none else v

/-- An entry that names a line is taken out as a Map Channels to none would take it out. -/
theorem unmapLine_eq (l : LineId) (k : LinkId) (s : State) :
    unmapLine l k s
      = inTurn (fun c s => if s.mapEntry k c = some l then writeEntry k (c, none) s else s) allChannels s := by
  unfold unmapLine
  congr 1
  funext c s
  split
  next h => simp [writeEntry, h]
  next => rfl

theorem unmapLine_remapped (l : LineId) (k : LinkId) (s : State) : Remapped s (unmapLine l k s) := by
  rw [unmapLine_eq]
  refine inTurn_remapped (fun c s => ?_) _ s
  split
  · exact writeEntry_remapped k _ s
  · exact Remapped.refl s

theorem ChannelView.unmapped_entry (v : ChannelView) (l : LineId) :
    (v.unmapped l).entry = if v.entry = some l then none else v.entry := by
  unfold ChannelView.unmapped; split <;> rfl

theorem ChannelView.unmapped_pending (v : ChannelView) (l : LineId) :
    (v.unmapped l).pending = (v.pending || (v.up && v.entry == some l)) := by
  unfold ChannelView.unmapped
  split
  next h =>
    have hne : ((none : Option LineId) != some l) = true := by simp
    simp [ChannelView.aim, h, hne]
  next h => simp [h]

/-- The step of `unmapLine_eq` for one channel leaves every other. -/
theorem unmapEntry_channel_other (l : LineId) (k : LinkId) (c : ChannelId) (s : State) (p : LinkId × ChannelId)
    (h : (k, c) ≠ p) :
    (if s.mapEntry k c = some l then writeEntry k (c, none) s else s).channel p = s.channel p := by
  split
  · exact writeEntry_channel_other k (c, none) s p h
  · rfl

/-- The step of `unmapLine_eq` for one channel unmaps it. -/
theorem unmapEntry_channel_own (l : LineId) (k : LinkId) (c : ChannelId) (s : State) :
    (if s.mapEntry k c = some l then writeEntry k (c, none) s else s).channel (k, c)
      = (s.channel (k, c)).unmapped l := by
  have hentry : (s.channel (k, c)).entry = s.mapEntry k c := rfl
  rw [ChannelView.unmapped, hentry]
  split
  · exact writeEntry_channel_own k (c, none) s
  · rfl

theorem unmapLine_channel_other (l : LineId) (k : LinkId) (s : State) (p : LinkId × ChannelId) (h : k ≠ p.1) :
    (unmapLine l k s).channel p = s.channel p := by
  rw [unmapLine_eq]
  refine inTurn_cell_kept (key := fun c => (k, c)) (unmapEntry_channel_other l k) fun hmem => ?_
  obtain ⟨c, -, rfl⟩ := List.mem_map.mp hmem
  exact h rfl

theorem unmapLine_channel_own (l : LineId) (k : LinkId) (s : State) (c : ChannelId) :
    (unmapLine l k s).channel (k, c) = (s.channel (k, c)).unmapped l := by
  have hkeys : (allChannels.map (fun c => (k, c))).Nodup :=
    (nodup_map_iff_of_inj (pair_inj k)).mpr (by decide)
  rw [unmapLine_eq]
  exact inTurn_cell_written (key := fun c => (k, c)) (write := fun _ v => v.unmapped l)
    (unmapEntry_channel_other l k) (unmapEntry_channel_own l k) hkeys (mem_allChannels c)

/-- Over both links, every channel is left unmapped from the line. -/
theorem unmapLinks_channel (l : LineId) (s : State) (p : LinkId × ChannelId) :
    (inTurn (unmapLine l) allLinks s).channel p = (s.channel p).unmapped l := by
  have hlinks := inTurn_cell_written (key := id) (cell := fun s k c => State.channel s (k, c))
    (write := fun _ v c => (v c).unmapped l)
    (fun j s k hjk => funext fun c => unmapLine_channel_other l j s (k, c) hjk)
    (fun k s => funext (unmapLine_channel_own l k s)) (s := s) (by decide) (mem_allLinks p.1)
  exact congrFun hlinks p.2

/-- The line record that the unconfigure form leaves (R13). -/
def LineRecord.unconfigured (r : LineRecord) : LineRecord :=
  { r with configured := false, grant := .closed, reserveRemaining := 0, residue := 0 }

/-- What the unconfigure form makes of a state `s` with line `l` configured (R13). -/
structure Unconfigured (l : LineId) (s t : State) : Prop where
  rest : t = { s with slots := t.slots, lines := t.lines, maps := t.maps, links := t.links }
  line : ∀ m, t.line m = if l = m then (s.line l).unconfigured else s.line m
  slot : ∀ i, t.slot i
    = if (s.slot i).line = some l then { s.slot i with line := none, role := .none } else s.slot i
  links : ∀ k, { t.link k with grantPending := (s.link k).grantPending } = s.link k
  channel : ∀ p, t.channel p = (s.channel p).unmapped l

/-- The line's record and the slots first, then the maps. -/
theorem Unconfigured.of_released {l : LineId} {s u t : State}
    (hrest : u = { s.setLine l (s.line l).unconfigured with slots := u.slots })
    (hslot : ∀ i, u.slot i
      = if (s.slot i).line = some l then { s.slot i with line := none, role := .none } else s.slot i)
    (hmaps : Remapped u t) (hchannel : ∀ p, t.channel p = (u.channel p).unmapped l) : Unconfigured l s t where
  rest := by
    calc t = { u with maps := t.maps, links := t.links } := hmaps.rest
      _ = { s with slots := u.slots, lines := u.lines, maps := t.maps, links := t.links } := by rw [hrest]; rfl
      _ = { s with slots := t.slots, lines := t.lines, maps := t.maps, links := t.links } := by rw [hmaps.rest]
  line m := by
    rw [hmaps.line, hrest]
    exact State.setLine_line s l m _
  slot i := by rw [hmaps.slot, hslot]
  links k := by
    have hlink : u.link k = s.link k := by rw [hrest]; rfl
    rw [← hlink]
    exact hmaps.links k
  channel p := by
    have hsame : u.channel p = s.channel p := by rw [hrest]; rfl
    rw [hchannel, hsame]

theorem unconfigureLine_unconfigured (l : LineId) (s : State) : Unconfigured l s (unconfigureLine l s) :=
  Unconfigured.of_released (releaseSlots_rest l _ _) (releaseSlots_slot l _)
    (inTurn_remapped (unmapLine_remapped l) allLinks _) (unmapLinks_channel l _)

/-! ### Read Line -/

theorem exec_readLine (line : Byte) (s : State) :
    exec (.readLine line) s = .next (serve 1 (serviceReadLine line) s) := by
  rfl

theorem serviceReadLine_live {l : LineId} {s : State} (hlive : s.freeze = none) :
    serviceReadLine (argByte l.val) s
      = (s, some { status := .ok, payload := 0x00 :: lineReply (liveSnapshot s) l }) := by
  simp [serviceReadLine, lineArg_eq_some.mpr rfl, answerReport, answerWith, reportSource, encodeSource, hlive]

theorem liveSnapshot_setPort (s : State) (p : FormatterPort) : liveSnapshot (s.setPort p) = liveSnapshot s := rfl

/-- Outside a report freeze, Read Line answers from the live records (R175, R178). -/
theorem readLine_live {l : LineId} {s : State} (hs : s.takesRequests) (hlive : s.freeze = none) :
    exec (.readLine (argByte l.val)) s = .next (s.answered 7 .ok (0x00 :: lineReply (liveSnapshot s) l)) := by
  have hwork := serviceReadLine_live (l := l) (s := s.setPort (s.port.takenFrame 7)) hlive
  rw [liveSnapshot_setPort] at hwork
  rw [exec_readLine, serve_answers hs (by omega) hwork rfl]
  rfl

/-- The settings of a line as Read Line puts them at the front of its record (R178). -/
def lineSettings (r : LineRecord) : List Byte :=
  yesNo r.configured ++ num1 r.colour.toNat ++ num1 r.slotA.val
    ++ optional 1 (fun b : SlotId => num1 b.val) r.slotB ++ r.active.encode ++ num1 r.defaultProfile.val
    ++ num4 r.reserve

theorem lineReply_settings (p : Snapshot) (l : LineId) : (lineReply p l).take 11 = lineSettings p.lines[l.val] := by
  have hlen : (lineSettings p.lines[l.val]).length = 11 := by
    generalize p.lines[l.val] = r
    unfold lineSettings
    cases r.slotB <;> cases r.active <;> rfl
  have hfront : lineSettings p.lines[l.val] <+: lineReply p l := by
    unfold lineReply lineSettings
    simp only [List.append_assoc, List.prefix_append_right_inj]
    exact List.prefix_append _ _
  rw [← hlen]
  exact (List.prefix_iff_eq_take.mp hfront).symm

/-- The bytes of a line's settings. -/
theorem lineSettings_bytes (r : LineRecord) :
    lineSettings r = [if r.configured then 0x01 else 0x00, r.colour.setWidth 8, argByte r.slotA.val]
      ++ (match r.slotB with | none => [0x00, 0x00] | some b => [0x01, argByte b.val])
      ++ [(match r.active with | .a => 0x00 | .b => 0x01), argByte r.defaultProfile.val] ++ bytesOf 4 r.reserve := by
  have hcolour : num1 r.colour.toNat = [r.colour.setWidth 8] := by
    simp [num1, bytesOf]
  rw [lineSettings, hcolour]
  cases r.slotB <;> cases r.active <;> rfl

theorem exec_unconfigureLine (line : Byte) (s : State) :
    exec (.unconfigureLine line) s = .next (serve 1 (serviceUnconfigureLine line) s) := by
  rfl

theorem serviceUnconfigureLine_held {l : LineId} {s : State} (hhold : s.supplyHold = true) :
    serviceUnconfigureLine (argByte l.val) s
      = answer .ok (if (s.line l).configured then unconfigureLine l s else s) := by
  simp [serviceUnconfigureLine, hhold, lineArg_eq_some.mpr rfl]

/-- Under the law of placement, a slot names a configured line exactly where the line names the slot (R7). -/
theorem line_eq_some_iff_names {s : State} (hplace : PlacementLaw s) {l : LineId}
    (hconf : (s.line l).configured = true) (i : SlotId) : (s.slot i).line = some l ↔ (s.line l).names i = true := by
  obtain ⟨hlines, hslots, -⟩ := hplace
  obtain ⟨-, -, hnamed⟩ := hlines l hconf
  exact ⟨fun h => (hslots i l h).2, fun h => (hnamed i h).1⟩

/-- Settles O19: the two slots are found by the law of placement, and each channel is unmapped on its own. -/
theorem unconfigureLineReleases : Obligations.UnconfigureLineReleases := by
  intro l s hs hhold hplace
  let taken := s.setPort (s.port.takenFrame 7)
  have hservice : serviceUnconfigureLine (argByte l.val) taken
      = answer .ok (if (s.line l).configured then unconfigureLine l taken else taken) :=
    serviceUnconfigureLine_held hhold
  refine ⟨fun hconf => ?unconfigured, fun hconf => ?configured⟩
  case unconfigured =>
    rw [hconf] at hservice
    rw [exec_unconfigureLine, serve_answer_only hs (by omega) hservice]
  case configured =>
    rw [hconf, if_pos rfl] at hservice
    have hu := unconfigureLine_unconfigured l taken
    generalize unconfigureLine l taken = u at hservice hu
    have hport : u.port = s.port.takenFrame 7 := by rw [hu.rest]; rfl
    let t : State := { u with port := answeredPort 7 .ok [] }
    have hline : t.line l = (s.line l).unconfigured := (hu.line l).trans (if_pos rfl)
    have hrest : t = { s with slots := t.slots, lines := t.lines, maps := t.maps, links := t.links,
                              port := answeredPort 7 .ok [] } :=
      congrArg (fun x : State => { x with port := answeredPort 7 .ok [] }) hu.rest
    refine ⟨t, ?next, hline, fun m hm => (hu.line m).trans (if_neg hm.symm), fun i => ?slot,
      fun k => ⟨hu.links k, fun c => ⟨?entry, ?pending⟩⟩, hrest, fun hlive => ⟨?read, ?settings⟩⟩
    case next => rw [exec_unconfigureLine, serve_answers hs (by omega) hservice hport]
    case slot =>
      have hnames := line_eq_some_iff_names hplace hconf i
      by_cases h : (s.line l).names i = true
      · exact (hu.slot i).trans ((if_pos (hnames.mpr h)).trans (if_pos h).symm)
      · exact (hu.slot i).trans ((if_neg fun hline => h (hnames.mp hline)).trans (if_neg h).symm)
    case entry => exact (congrArg ChannelView.entry (hu.channel (k, c))).trans (ChannelView.unmapped_entry _ l)
    case pending => exact (congrArg ChannelView.pending (hu.channel (k, c))).trans (ChannelView.unmapped_pending _ l)
    case read =>
      have hreset : t.inReset = false := by rw [hrest]; exact hs.1
      have hfreeze : t.freeze = none := by rw [hrest]; exact hlive
      exact readLine_live ⟨hreset, PortState.noConfusion⟩ hfreeze
    case settings =>
      have hlines : (liveSnapshot t).lines[l.val] = (s.line l).unconfigured := hline
      rw [lineReply_settings, hlines, lineSettings_bytes]
      rfl

end Sys2Proof.Machine

/-! PROOFS. Chapter 10: what the read requests answer (R175 to R179, R184) and what Clear Events removes (R185).
Argument bytes outside their range, answers from a record, the reads, and then the Event Unit. -/

namespace Sys2Proof.Machine

/-! ### Argument bytes -/

theorem slotArg_eq_some {b : Byte} {i : SlotId} : slotArg b = some i ↔ b = argByte i.val :=
  rangeArg_eq_some (by decide)

/-- What the single-byte arguments of a range share: a byte that spells no number of the range is refused. -/
theorem rangeArg_eq_none {n : Nat} {b : Byte} :
    (if h : b.toNat < n then some (⟨b.toNat, h⟩ : Fin n) else none) = none ↔ n ≤ b.toNat := by simp

theorem slotArg_eq_none {b : Byte} : slotArg b = none ↔ 16 ≤ b.toNat := rangeArg_eq_none
theorem lineArg_eq_none {b : Byte} : lineArg b = none ↔ 12 ≤ b.toNat := rangeArg_eq_none
theorem linkArg_eq_none {b : Byte} : linkArg b = none ↔ 2 ≤ b.toNat := rangeArg_eq_none

/-! ### Answers from a record -/

/-- A request whose work answers a record and leaves the state changes the port alone. -/
theorem serve_answerWith {s : State} {n : Nat} {work : Service} {payload : List Byte} (hs : s.takesRequests)
    (hn : n ≤ 64)
    (hwork : work (s.setPort (s.port.takenFrame (6 + n)))
      = answerWith payload (s.setPort (s.port.takenFrame (6 + n)))) :
    serve n work s = s.answered (6 + n) .ok payload :=
  serve_answers hs hn hwork rfl

/-- A request whose work writes the Event Unit and answers a record changes that unit and the port alone. -/
theorem serve_writesEvents {s : State} {n : Nat} {work : Service} {u : EventUnit} {payload : List Byte}
    (hs : s.takesRequests) (hn : n ≤ 64)
    (hwork : work (s.setPort (s.port.takenFrame (6 + n)))
      = answerWith payload ((s.setPort (s.port.takenFrame (6 + n))).setEvents u)) :
    serve n work s = { s with events := u, port := answeredPort (6 + n) .ok payload } :=
  serve_answers hs hn hwork rfl

/-- The snapshot is what the four snapshot reads answer from under a freeze, and the live records otherwise (R175). -/
theorem reportSource_eq (s : State) : reportSource s = (s.freeze.map Freeze.snapshot).getD (liveSnapshot s) := by
  unfold reportSource
  cases s.freeze <;> rfl

/-- The port is no part of what the four snapshot reads answer from. -/
theorem reportSource_setPort (s : State) (p : FormatterPort) : reportSource (s.setPort p) = reportSource s := rfl

theorem answerReport_setPort (record : Snapshot → List Byte) (s : State) (p : FormatterPort) :
    answerReport record (s.setPort p)
      = answerWith (sourceByte s :: record ((s.freeze.map Freeze.snapshot).getD (liveSnapshot s))) (s.setPort p) := by
  rw [answerReport, reportSource_setPort, reportSource_eq]
  rfl

/-- A snapshot read answers its source and then its record (R175), and changes nothing else. -/
theorem serve_answerReport {s : State} {n : Nat} (record : Snapshot → List Byte) (hs : s.takesRequests)
    (hn : n ≤ 64) :
    serve n (answerReport record) s
      = s.answered (6 + n) .ok (sourceByte s :: record ((s.freeze.map Freeze.snapshot).getD (liveSnapshot s))) :=
  serve_answerWith hs hn (answerReport_setPort record s _)

/-! ### The read requests -/

theorem exec_readPartIdentity (s : State) : exec .readPartIdentity s = .next (serve 0 serviceReadPartIdentity s) := by
  rfl

theorem exec_readHistory (s : State) : exec .readHistory s = .next (serve 0 (answerReport historyReply) s) := by
  rfl

theorem exec_readSlot (slot : Byte) (s : State) :
    exec (.readSlot slot) s = .next (serve 1 (serviceReadSlot slot) s) := by
  rfl

theorem exec_readLink (link : Byte) (s : State) :
    exec (.readLink link) s = .next (serve 1 (serviceReadLink link) s) := by
  rfl

theorem exec_readEvents (s : State) : exec .readEvents s = .next (serve 0 serviceReadEvents s) := by
  rfl

theorem serviceReadSlot_ok (i : SlotId) : serviceReadSlot (argByte i.val) = answerReport (fun p => slotReply p i) := by
  funext s
  simp [serviceReadSlot, slotArg_eq_some.mpr rfl]

theorem serviceReadSlot_badArg {b : Byte} (h : 16 ≤ b.toNat) : serviceReadSlot b = answer .badArg := by
  funext s
  simp [serviceReadSlot, slotArg_eq_none.mpr h]

theorem serviceReadLine_ok (l : LineId) : serviceReadLine (argByte l.val) = answerReport (fun p => lineReply p l) := by
  funext s
  simp [serviceReadLine, lineArg_eq_some.mpr rfl]

theorem serviceReadLine_badArg {b : Byte} (h : 12 ≤ b.toNat) : serviceReadLine b = answer .badArg := by
  funext s
  simp [serviceReadLine, lineArg_eq_none.mpr h]

theorem serviceReadLink_ok (k : LinkId) : serviceReadLink (argByte k.val) = answerReport (fun p => linkReply p k) := by
  funext s
  simp [serviceReadLink, linkArg_eq_some.mpr rfl]

theorem serviceReadLink_badArg {b : Byte} (h : 2 ≤ b.toNat) : serviceReadLink b = answer .badArg := by
  funext s
  simp [serviceReadLink, linkArg_eq_none.mpr h]

/-- Read Part Identity answers from live state (R175, R176). -/
theorem serve_readPartIdentity {s : State} (hs : s.takesRequests) :
    serve 0 serviceReadPartIdentity s = s.answered 6 .ok (identityReply s) :=
  serve_answerWith (n := 0) hs (by omega) rfl

/-- Read Events answers the Event Unit and makes the reported set the pending set (R184). -/
theorem serve_readEvents {s : State} (hs : s.takesRequests) :
    serve 0 serviceReadEvents s
      = { s with events := { s.events with reported := s.events.pending },
                 port := answeredPort 6 .ok (eventsReply s.events) } :=
  serve_writesEvents (n := 0) hs (by omega) rfl

/-- Settles O9: each read is an answer from a record or, for an argument that spells no number of its range, the answer
BAD_ARG; Read Events alone writes to the state. -/
theorem readRequestsAnswer : Obligations.ReadRequestsAnswer := by
  intro b s hs source
  have report (n : Nat) (hn : n ≤ 64) (record : Snapshot → List Byte) :
      serve n (answerReport record) s = s.answered (6 + n) .ok (sourceByte s :: record source) :=
    serve_answerReport record hs hn
  have badArg : serve 1 (answer .badArg) s = s.answered 7 .badArg [] := serve_answer_only hs (by omega) rfl
  refine ⟨?identity, ?history, ?slot, ?noSlot, ?line, ?noLine, ?link, ?noLink, ?events⟩
  case identity => rw [exec_readPartIdentity, serve_readPartIdentity hs]
  case history => rw [exec_readHistory, report 0 (by omega)]
  case slot => rintro i rfl; rw [exec_readSlot, serviceReadSlot_ok, report 1 (by omega)]
  case noSlot => intro h; rw [exec_readSlot, serviceReadSlot_badArg h, badArg]
  case line => rintro l rfl; rw [exec_readLine, serviceReadLine_ok, report 1 (by omega)]
  case noLine => intro h; rw [exec_readLine, serviceReadLine_badArg h, badArg]
  case link => rintro k rfl; rw [exec_readLink, serviceReadLink_ok, report 1 (by omega)]
  case noLink => intro h; rw [exec_readLink, serviceReadLink_badArg h, badArg]
  case events => exact ⟨_, exec_readEvents s, congrArg State.port (serve_readEvents hs)⟩

/-! ### Clear Events -/

/-- ATTN is driven asserted exactly where a pair of an unmasked kind is pending (R186). -/
theorem attnLevel_iff (mask : BitVec 24) (pending : List Event) :
    attnLevel mask pending = true ↔ ∃ e ∈ pending, mask.getLsbD (e.code - 1) = true :=
  List.any_eq_true

/-- Of the reported pairs, Clear Events removes those of the kinds named. -/
theorem clearsPair_of_mem {u : EventUnit} {e : Event} (he : e ∈ u.reported) (kinds : BitVec 24) :
    clearsPair u kinds e = kindsName kinds e := by
  simp [clearsPair, he]

theorem clearsPair_of_not_mem {u : EventUnit} {e : Event} (he : e ∉ u.reported) (kinds : BitVec 24) :
    clearsPair u kinds e = false := by
  simp [clearsPair, he]

theorem cleared_reported (u : EventUnit) (kinds : BitVec 24) :
    (u.cleared kinds).reported = u.reported.filter (fun e => !kindsName kinds e) :=
  List.filter_congr fun e he => by rw [clearsPair_of_mem he]

/-- Where no reported pair is of a kind named, Clear Events leaves the Event Unit as it was, ATTN included. -/
theorem cleared_eq_self {u : EventUnit} {kinds : BitVec 24} (hlaw : EventLaw u)
    (hnone : ∀ e ∈ u.reported, kindsName kinds e = false) : u.cleared kinds = u := by
  obtain ⟨hattn, -, -, -⟩ := hlaw
  have hkeeps (e : Event) : clearsPair u kinds e = false := by
    by_cases he : e ∈ u.reported
    · rw [clearsPair_of_mem he, hnone e he]
    · exact clearsPair_of_not_mem he kinds
  have hall (events : List Event) : events.filter (fun e => !clearsPair u kinds e) = events :=
    List.filter_eq_self.mpr fun e _ => by rw [hkeeps, Bool.not_false]
  rw [EventUnit.cleared, hall, hall, ← hattn]

/-- A pending pair is not raised again (R183). -/
theorem raise_of_pending {e : Event} {s : State} (he : e ∈ s.events.pending) : raise e s = s := by
  simp [raise, he]

theorem exec_clearEvents (kinds : BitVec 24) (s : State) :
    exec (.clearEvents kinds) s = .next (serve 3 (serviceClearEvents kinds) s) := by
  rfl

/-- Clear Events writes the Event Unit alone, and is answered OK (R185). -/
theorem serve_clearEvents {s : State} (hs : s.takesRequests) (kinds : BitVec 24) :
    serve 3 (serviceClearEvents kinds) s
      = { s with events := s.events.cleared kinds, port := answeredPort 9 .ok [] } :=
  serve_writesEvents (n := 3) hs (by omega) rfl

/-- Settles O12: the Event Unit is cleared, and of the reported pairs those go whose kind is named. -/
theorem clearEventsRemovesReported : Obligations.ClearEventsRemovesReported := by
  intro kinds s hs
  refine ⟨{ s with events := s.events.cleared kinds, port := answeredPort 9 .ok [] }, ?next, ?pending, ?reported,
    ?mask, ?attn, ?noneNamed, ?raised, ?rest⟩
  case next => rw [exec_clearEvents, serve_clearEvents hs]
  case pending => rfl
  case reported => exact cleared_reported s.events kinds
  case mask => rfl
  case attn => exact attnLevel_iff s.events.mask (s.events.cleared kinds).pending
  case noneNamed => exact cleared_eq_self
  case raised => exact fun e he => raise_of_pending he
  case rest => rfl

end Sys2Proof.Machine
